-- ==== Sys2Proof/Word.lean ====
section
/-! DEFINITION. The word types of the block (spec 00_scope.md R11): fixed widths and nothing else. -/

namespace Sys2Proof

/-- A palette index or an audio sample: 8 bits, unsigned (R11). -/
abbrev Byte := BitVec 8

/-- A native colour, R(5):G(6):B(5): 16 bits (R11, R111). -/
abbrev Color := BitVec 16

/-- An element of `PALROM`, `{R, G, B}`: 24 bits (R41). -/
abbrev RomWord := BitVec 24

/-- A host-visible register, a command word, a stereo frame: 32 bits (R11). -/
abbrev Word := BitVec 32

end Sys2Proof
end

