-- ==== Sys2Proof/Syntax.lean ====
section
/-! DEFINITION. Names and syntax: the commands (spec 30_encoding.md R92), the fields of a command word (R91), the
memory spaces (20_memory.md R60), the registers (10_state.md R21), the fault codes (60_exceptions.md R196) and the
host transactions (45_host_access.md R175). -/

namespace Sys2Proof

/-- The operand `ch` of `RESAMPLE` (R93): `CH` = 0 selects the primary stream, `CH` = 1 the auxiliary one. -/
inductive Channel where
  | primary
  | auxiliary
deriving DecidableEq, Repr

/-- The five commands, one constructor per row of the opcode table (R92). -/
inductive Instr where
  | palbuild
  | blit
  | resample (ch : Channel)
  | mix
  | widen
deriving DecidableEq, Repr

/-- The mnemonic of a command, as R92 and R98 write it (without the operand of `RESAMPLE`). -/
def Instr.mnemonic : Instr → String
  | .palbuild => "PALBUILD"
  | .blit => "BLIT"
  | .resample _ => "RESAMPLE"
  | .mix => "MIX"
  | .widen => "WIDEN"

/-- The three fields of format `C` (R91): the command word is `{RSV[22:0], CH, OP[7:0]}`. -/
structure CommandFields where
  /-- bits 31:9, reserved -/
  rsv : BitVec 23
  /-- bit 8, channel select -/
  ch : BitVec 1
  /-- bits 7:0, operation code -/
  op : Byte
deriving DecidableEq, Repr

/-- The ten memory spaces (R60). -/
inductive Space where
  | palrom
  | lut
  | surf
  | fb
  | src0
  | src1
  | rs0
  | rs1
  | mixb
  | out
deriving DecidableEq, Repr

/-- The 23 registers (R21). -/
inductive Reg where
  | cmd
  | status
  | errinfo
  | dispTop
  | visTop
  | visLeft
  | visW
  | visH
  | videoW
  | videoH
  | outRate
  | chipFreq
  | scanlines
  | src0Len
  | src1Len
  | auxPresent
  | tlen
  | cfgFbWidth
  | cfgFbStride
  | cfgFbHeight
  | cfgSurfSize
  | cfgMaxSrc
  | cfgTlenMax
deriving DecidableEq, Repr

/-- The causes of a fault the block records (R196). -/
inductive ErrCode where
  | illegalCmd
  | sequence
  | lutUnbuilt
  | blitGeometry
  | surfRange
  | audioConfig
  | rateChanged
  | tlenCapacity
  | resamplerOverflow
  | srcUnderrun
  | addr
  | access
deriving DecidableEq, Repr

/-- One host transaction (R175). A register number and an element index are 32-bit words, since `ERRINFO` records
either of them in 32 bits (R26) and R175 bounds the index by 2^32; a space identifier is a natural (log 8). -/
inductive Transaction where
  /-- `WR reg, v`: register write -/
  | wr (reg : Word) (v : Word)
  /-- `RD reg`: register read -/
  | rd (reg : Word)
  /-- `WM sp[i], v`: memory write of one element -/
  | wm (sp : Nat) (index : Word) (v : Word)
  /-- `RM sp[i]`: memory read of one element -/
  | rm (sp : Nat) (index : Word)
  /-- `RESET` -/
  | reset
deriving DecidableEq, Repr

end Sys2Proof
end

