-- ==== Sys2Proof/WellFormed.lean ====
section
/-! DEFINITION. When the fields of a command word are legal (spec 30_encoding.md R91, R92, R94). An `Instr` is
well-formed by its type; what can be ill-formed is a triple of fields. -/

namespace Sys2Proof

/-- `RSV` "must be 0" (R91). -/
def CommandFields.reservedClear (f : CommandFields) : Bool := f.rsv == 0

/-- `OP` is one of the five operation codes 0x01 to 0x05 (R92, R94). -/
def CommandFields.operationKnown (f : CommandFields) : Bool :=
  f.op == 0x01 || f.op == 0x02 || f.op == 0x03 || f.op == 0x04 || f.op == 0x05

/-- `CH` "must be 0 for every other operation" than `RESAMPLE` (R91). -/
def CommandFields.channelAllowed (f : CommandFields) : Bool := f.ch == 0 || f.op == 0x03

/-- The fields are those of one of the six legal command words (R92, R94). -/
def CommandFields.wellFormed (f : CommandFields) : Bool :=
  f.reservedClear && f.operationKnown && f.channelAllowed

/-- The fields of a command, from the opcode map (R92). -/
def Instr.fields : Instr → CommandFields
  | .palbuild => ⟨0, 0, 0x01⟩
  | .blit => ⟨0, 0, 0x02⟩
  | .resample .primary => ⟨0, 0, 0x03⟩
  | .resample .auxiliary => ⟨0, 1, 0x03⟩
  | .mix => ⟨0, 0, 0x04⟩
  | .widen => ⟨0, 0, 0x05⟩

/-- A command is well-formed when the fields of its word are legal; `Laws/PerInstr.lean` shows it of each. -/
def Instr.wellFormed (i : Instr) : Bool := i.fields.wellFormed

end Sys2Proof
end

