-- ==== Sys2Proof/Decode.lean ====
section
/-! DEFINITION. Decoding (spec 30_encoding.md R91 to R95) and encoding of command words, and the numbers of registers
(10_state.md R21), of spaces (20_memory.md R60) and of fault codes (60_exceptions.md R196). -/

namespace Sys2Proof

/-- The fields of a 32-bit command word (R91). -/
def fieldsOfWord (w : Word) : CommandFields :=
  ⟨w.extractLsb 31 9, w.extractLsb 8 8, w.extractLsb 7 0⟩

/-- The command word `{RSV, CH, OP}` of its fields (R91). -/
def wordOfFields (f : CommandFields) : Word := f.rsv ++ f.ch ++ f.op

/-- Why a command word is illegal (R94); the block reports each of them as `ERR_ILLEGAL_CMD`. -/
inductive IllegalCommand where
  /-- a bit of `RSV` is set -/
  | reservedBits (rsv : BitVec 23)
  /-- `CH` = 1 with an operation other than `RESAMPLE` -/
  | channelBit (op : Byte)
  /-- `OP` is 0x00 or 0x06 to 0xFF -/
  | unknownOperation (op : Byte)
deriving DecidableEq, Repr

/-- The channel a `CH` bit selects (R93). -/
def channelOfBit (ch : BitVec 1) : Channel := if ch = 0 then .primary else .auxiliary

/-- A command other than `RESAMPLE`, which requires `CH` = 0 (R95). -/
def withoutChannel (f : CommandFields) (i : Instr) : Except IllegalCommand Instr :=
  if f.ch = 0 then .ok i else .error (.channelBit f.op)

/-- The decode procedure on fields, in the order of R95. -/
def decodeFields (f : CommandFields) : Except IllegalCommand Instr :=
  if f.rsv ≠ 0 then .error (.reservedBits f.rsv)
  else if f.op = 0x01 then withoutChannel f .palbuild
  else if f.op = 0x02 then withoutChannel f .blit
  else if f.op = 0x03 then .ok (.resample (channelOfBit f.ch))
  else if f.op = 0x04 then withoutChannel f .mix
  else if f.op = 0x05 then withoutChannel f .widen
  else .error (.unknownOperation f.op)

/-- Decode, total on every 32-bit word (R94, R95). -/
def decode (w : Word) : Except IllegalCommand Instr := decodeFields (fieldsOfWord w)

/-- The command word of a command (R92). -/
def encode (i : Instr) : Word := wordOfFields i.fields

/-- The command word whose low `nbits` bits are those of `w`, and whose other bits are 0. -/
def tableWord (nbits w : Nat) : Word := BitVec.ofNat 32 (w % 2 ^ nbits)

/-- The command this decoder reads from the bits `w` of a row of the opcode table. A command is one 32-bit word, the
data of a `CMD` write (R90), so there are no later words and no byte order to lay out; a number that does not fit in 32
bits is no command word. -/
def decodeTableWord (nbits w : Nat) : Option Instr :=
  if w % 2 ^ nbits < 2 ^ 32 then
    match decode (tableWord nbits w) with
    | .ok i => some i
    | .error _ => none
  else none

/-- The number of a register (R21). -/
def Reg.number : Reg → Word
  | .cmd => 0x00
  | .status => 0x01
  | .errinfo => 0x02
  | .dispTop => 0x04
  | .visTop => 0x05
  | .visLeft => 0x06
  | .visW => 0x07
  | .visH => 0x08
  | .videoW => 0x09
  | .videoH => 0x0A
  | .outRate => 0x10
  | .chipFreq => 0x11
  | .scanlines => 0x12
  | .src0Len => 0x13
  | .src1Len => 0x14
  | .auxPresent => 0x15
  | .tlen => 0x16
  | .cfgFbWidth => 0x18
  | .cfgFbStride => 0x19
  | .cfgFbHeight => 0x1A
  | .cfgSurfSize => 0x1B
  | .cfgMaxSrc => 0x1C
  | .cfgTlenMax => 0x1D

/-- All 23 registers, in the order of R21. -/
def Reg.all : List Reg :=
  [.cmd, .status, .errinfo, .dispTop, .visTop, .visLeft, .visW, .visH, .videoW, .videoH, .outRate, .chipFreq,
   .scanlines, .src0Len, .src1Len, .auxPresent, .tlen, .cfgFbWidth, .cfgFbStride, .cfgFbHeight, .cfgSurfSize,
   .cfgMaxSrc, .cfgTlenMax]

/-- The register with a number, none for an undefined number (R32). -/
def Reg.ofNumber (n : Word) : Option Reg := Reg.all.find? (fun r => r.number == n)

/-- The identifier of a space (R60). -/
def Space.id : Space → Nat
  | .palrom => 0
  | .lut => 1
  | .surf => 2
  | .fb => 3
  | .src0 => 4
  | .src1 => 5
  | .rs0 => 6
  | .rs1 => 7
  | .mixb => 8
  | .out => 9

/-- The space with an identifier; "identifiers 10 and above name no space" (R60). -/
def Space.ofId : Nat → Option Space
  | 0 => some .palrom
  | 1 => some .lut
  | 2 => some .surf
  | 3 => some .fb
  | 4 => some .src0
  | 5 => some .src1
  | 6 => some .rs0
  | 7 => some .rs1
  | 8 => some .mixb
  | 9 => some .out
  | _ => none

/-- The value of `STATUS.ERRCODE` for each cause (R196). -/
def ErrCode.code : ErrCode → Byte
  | .illegalCmd => 0x01
  | .sequence => 0x02
  | .lutUnbuilt => 0x03
  | .blitGeometry => 0x04
  | .surfRange => 0x05
  | .audioConfig => 0x06
  | .rateChanged => 0x07
  | .tlenCapacity => 0x08
  | .resamplerOverflow => 0x09
  | .srcUnderrun => 0x0A
  | .addr => 0x0B
  | .access => 0x0C

end Sys2Proof
end

