-- ==== Sys2Proof/Config.lean ====
section
/-! DEFINITION. What an implementation fixes and the spec leaves open: the parameters of spec 00_scope.md R10 and the
value of an element nothing has written (10_state.md R45). Both are free: constants without a body, of which nothing
can be proved but what their types say. -/

namespace Sys2Proof

/-- A palette entry, the byte triple (R, G, B) of R10. -/
structure Rgb where
  r : Byte
  g : Byte
  b : Byte
deriving DecidableEq, Repr, Inhabited

/-- The parameters of R10 with the constraints R10 puts on them. `fbStride` counts pixels. -/
structure Params where
  /-- `PAL_RGB`, the constant palette table -/
  palRgb : Vector Rgb 256
  /-- `FB_WIDTH` -/
  fbWidth : Nat := 1
  /-- `FB_STRIDE` -/
  fbStride : Nat := 1
  /-- `FB_HEIGHT` -/
  fbHeight : Nat := 1
  /-- `SURF_SIZE` -/
  surfSize : Nat := 1
  /-- `MAX_SRC` -/
  maxSrc : Nat := 1
  /-- `TLEN_MAX` -/
  tlenMax : Nat := 1
  fbWidth_pos : 1 ≤ fbWidth := by decide
  fbWidth_le_stride : fbWidth ≤ fbStride := by decide
  fbStride_pos : 1 ≤ fbStride := by decide
  fbStride_lt : fbStride < 4294967296 := by decide
  fbHeight_pos : 1 ≤ fbHeight := by decide
  fbHeight_lt : fbHeight < 4294967296 := by decide
  fbArea_lt : fbStride * fbHeight < 4294967296 := by decide
  surfSize_pos : 1 ≤ surfSize := by decide
  surfSize_lt : surfSize < 4294967296 := by decide
  maxSrc_pos : 1 ≤ maxSrc := by decide
  maxSrc_lt : maxSrc < 4294967296 := by decide
  tlenMax_pos : 1 ≤ tlenMax := by decide
  tlenMax_lt : tlenMax < 4294967296 := by decide
deriving DecidableEq, Repr, Inhabited

/-- The parameters of the installed hardware: any that R10 allows (92_eei_decisions.md D39; log 1). -/
opaque Config.params : Params

/-- What a host read of an element nothing has written returns (10_state.md R45, 93_implementation_defined.md U1): any
value. It depends on the number of resets so far, on the space and on the index, so that a read is idempotent (20_memory.md
R65) and each reset may leave another pattern (log 4, log 7). -/
opaque Config.unwritten (epoch : Nat) (space : Space) (index : Nat) : Word

end Sys2Proof
end

