-- ==== Sys2Proof/Machine/State.lean ====
section
/-! DEFINITION. The machine's state as plain data (spec 10_state.md R20 to R46), its reset value, and the reasons a step
can stop. -/

namespace Sys2Proof.Machine

/-- The model-level reasons a step stops. None of them is a fault of the block: a fault of the block is recorded in
`STATUS` and is a next state (60_exceptions.md R203). -/
inductive Fault where
  /-- Raised by a command that would read an element nothing has written since reset: the reason `Uninit` of
  10_state.md R45 and 60_exceptions.md R209, with the space and the index. Safe: the model stops where the hardware
  goes on with an unspecified value (log 6). -/
  | uninit (space : Space) (index : Nat)
deriving DecidableEq, Repr

/-- The reasons a step refuses an instruction. -/
inductive Refusal where
  /-- Raised by an arm of `exec` for an instruction without a meaning; no arm of this model raises it. Safe: no next
  state is claimed. -/
  | notModelled (mnemonic : String)
deriving DecidableEq, Repr

/-- The written elements of one memory space: (index, element) pairs with strictly rising indices. An element that is
not listed is unwritten (R45). For the 8-bit spaces this is a list of `Host.Cell` (log 9). -/
abbrev Mem (width : Nat) := List (Nat × BitVec width)

/-- The state: the registers and flags of R21 and R25, the nine writable spaces of R40, the parameters of R10, and the
host's side of the interface. -/
structure State where
  /-- the parameters of R10; no transaction changes them (R20) -/
  cfg : Params
  /-- `DISP_TOP` (R22) -/
  dispTop : Word
  /-- `VIS_TOP` (R22) -/
  visTop : Word
  /-- `VIS_LEFT`, which no command reads (R22) -/
  visLeft : Word
  /-- `VIS_W` (R22) -/
  visW : Word
  /-- `VIS_H` (R22) -/
  visH : Word
  /-- `VIDEO_W` (R27) -/
  videoW : Word
  /-- `VIDEO_H` (R27) -/
  videoH : Word
  /-- `OUT_RATE` (R23) -/
  outRate : Word
  /-- `CHIP_FREQ` (R23) -/
  chipFreq : Word
  /-- `SCANLINES` (R23) -/
  scanlines : Word
  /-- `SRC0_LEN` (R23) -/
  src0Len : Word
  /-- `SRC1_LEN` (R23) -/
  src1Len : Word
  /-- `AUX_PRESENT`: "only bit 0 is stored" (R23) -/
  auxPresent : Bool
  /-- `TLEN` (R28) -/
  tlen : Word
  /-- `STATUS` bit 0 (R25) -/
  lutValid : Bool
  /-- `STATUS` bit 1 (R25) -/
  videoValid : Bool
  /-- `STATUS` bit 2 (R25) -/
  tlenValid : Bool
  /-- `STATUS` bit 3 (R25) -/
  rs0Valid : Bool
  /-- `STATUS` bit 4 (R25) -/
  rs1Valid : Bool
  /-- `STATUS` bit 5 (R25) -/
  mixValid : Bool
  /-- `STATUS` bit 6 (R25) -/
  outValid : Bool
  /-- `STATUS` bit 7, `FAULT` (R25, R31) -/
  faulted : Bool
  /-- `STATUS` bits 15:8, `ERRCODE` (R25, R31) -/
  errCode : Byte
  /-- `ERRINFO` (R26) -/
  errInfo : Word
  /-- space `LUT` (R42) -/
  lut : Mem 16
  /-- space `SURF` (R43) -/
  surf : Mem 8
  /-- space `FB` (R43) -/
  fb : Mem 16
  /-- space `SRC0` (R44) -/
  src0 : Mem 8
  /-- space `SRC1` (R44) -/
  src1 : Mem 8
  /-- space `RS0` (R44) -/
  rs0 : Mem 8
  /-- space `RS1` (R44) -/
  rs1 : Mem 8
  /-- space `MIXB` (R44) -/
  mixb : Mem 8
  /-- space `OUT` (R44) -/
  out : Mem 32
  /-- the model's own: the transactions the host has issued and the block has not performed, oldest first (log 2) -/
  pending : List Transaction
  /-- the model's own: what the last performed transaction returned, if it returns a value (R175; log 3) -/
  reply : Option Word
  /-- the model's own: the number of `RESET` transactions so far (log 5) -/
  epoch : Nat
deriving DecidableEq, Repr

/-- The state after reset of hardware with parameters `P` (R46, R230): registers 0, flags 0, no fault, every element of
the nine writable spaces unwritten. -/
def State.resetOf (P : Params) : State where
  cfg := P
  dispTop := 0
  visTop := 0
  visLeft := 0
  visW := 0
  visH := 0
  videoW := 0
  videoH := 0
  outRate := 0
  chipFreq := 0
  scanlines := 0
  src0Len := 0
  src1Len := 0
  auxPresent := false
  tlen := 0
  lutValid := false
  videoValid := false
  tlenValid := false
  rs0Valid := false
  rs1Valid := false
  mixValid := false
  outValid := false
  faulted := false
  errCode := 0
  errInfo := 0
  lut := []
  surf := []
  fb := []
  src0 := []
  src1 := []
  rs0 := []
  rs1 := []
  mixb := []
  out := []
  pending := []
  reply := none
  epoch := 0

/-- The machine right after power-on or reset (R46, R230, R231), with any parameters R10 allows. -/
def State.reset : State := State.resetOf Config.params

end Sys2Proof.Machine
end

