-- ==== Sys2Proof/Machine/Ops.lean ====
section
/-! DEFINITION. The shared operations: reading and writing elements of a space (spec 00_scope.md R14), recording a fault
and leaving the FAULTED state (60_exceptions.md R203, R207), and the frame every command runs in (R204, R206). -/

namespace Sys2Proof.Machine

/-! ## Elements of a space -/

/-- The element at an index, none if nothing has written it (R45). -/
def Mem.read {width : Nat} : Mem width → Nat → Option (BitVec width)
  | [], _ => none
  | (j, v) :: m, i => if j = i then some v else Mem.read m i

/-- `MemWrite` (R14): the element at index `i` becomes `v`, every other element stays. Keeps the indices rising. -/
def Mem.write {width : Nat} : Mem width → Nat → BitVec width → Mem width
  | [], i, v => [(i, v)]
  | (j, u) :: m, i, v =>
    if i < j then (i, v) :: (j, u) :: m
    else if i = j then (i, v) :: m
    else (j, u) :: Mem.write m i v

/-- `MemWrite` of a run of elements: element `base + k` becomes the `k`-th value. The indices are distinct, so the order
of the writes does not matter (R71). -/
def Mem.writeRun {width : Nat} (m : Mem width) (base : Nat) : List (BitVec width) → Mem width
  | [] => m
  | v :: vs => Mem.write (Mem.writeRun m (base + 1) vs) base v

/-- The canonical form of a space: indices strictly rising, so that equal contents are equal lists. -/
abbrev Mem.wf {width : Nat} (m : Mem width) : Prop := m.Pairwise (fun a b => a.1 < b.1)

/-- Every written element lies below `size`. -/
abbrev Mem.below {width : Nat} (m : Mem width) (size : Nat) : Prop := ∀ e ∈ m, e.1 < size

/-- The element a command reads; an unwritten one stops the model with `Uninit` (R45, R209). -/
def element {width : Nat} (space : Space) (m : Mem width) (i : Nat) : Except Fault (BitVec width) :=
  match m.read i with
  | some v => .ok v
  | none => .error (.uninit space i)

/-- A loop over `is` that produces one value an iteration; the first failing iteration ends it. -/
def collect {ι α : Type} (f : ι → Except Fault α) : List ι → Except Fault (List α)
  | [] => .ok []
  | i :: is =>
    match f i with
    | .error e => .error e
    | .ok v =>
      match collect f is with
      | .error e => .error e
      | .ok vs => .ok (v :: vs)

/-- `ceil(a / b)` on naturals (R12). -/
def ceilDiv (a b : Nat) : Nat := (a + b - 1) / b

/-! ## The fault and the way out of it -/

/-- The three assignments of fault entry (R203). -/
def State.withFaultRecord (s : State) (code : Byte) (info : Word) : State :=
  { s with faulted := true, errCode := code, errInfo := info }

/-- `raise Fault(CODE)` with its `ERRINFO` (R203): the first fault since reset is recorded and nothing else changes; in
the FAULTED state no further fault is recorded (R206, R207). -/
def State.takeFault (s : State) (c : ErrCode) (info : Word) : State :=
  if s.faulted then s else s.withFaultRecord c.code info

/-- `RESET` (R188, R230): every piece of state to its reset value. The parameters stay (R230), and so do the
transactions the host has still to issue; the epoch counts the reset (log 5). -/
def State.afterReset (s : State) : State :=
  { State.resetOf s.cfg with pending := s.pending, epoch := s.epoch + 1 }

/-! ## The host's side of the interface -/

/-- The transaction at the head is taken and `rest` is left; nothing has been returned yet (R175). -/
def State.dequeue (s : State) (rest : List Transaction) : State :=
  { s with pending := rest, reply := none }

/-- The transaction returns `v` (R175). -/
def State.withReply (s : State) (v : Word) : State := { s with reply := some v }

/-! ## The frame of a command -/

/-- A command issued by a `CMD` write: ignored while FAULTED (R206); else its checks on the old state, the first that
fails being recorded with the command word in `ERRINFO` (R196, R204, R205); else its effect. The word is `encode i`, the
only word that decodes to `i` (R92; log 13). -/
def runCommand (i : Instr) (check : State → Option ErrCode) (effect : State → Except Fault State) (s : State) :
    Host.Outcome State Fault Refusal :=
  if s.faulted then .next s
  else
    match check s with
    | some c => .next (s.takeFault c (encode i))
    | none =>
      match effect s with
      | .ok t => .next t
      | .error f => .fault f

end Sys2Proof.Machine
end

