-- ==== Sys2Proof/Machine/Operands.lean ====
section
/-! DEFINITION. The implicit operands of the commands (spec 30_encoding.md R93): the registers and spaces a channel
selects, the constant palette as elements of `PALROM`, and the sizes of the spaces. -/

namespace Sys2Proof.Machine

/-- `SRCn_LEN` (R93). -/
def srcLen (ch : Channel) (s : State) : Word :=
  match ch with
  | .primary => s.src0Len
  | .auxiliary => s.src1Len

/-- The identifier of `SRCn` (R93). -/
def srcSpace : Channel → Space
  | .primary => .src0
  | .auxiliary => .src1

/-- The contents of `SRCn` (R93). -/
def srcMem (ch : Channel) (s : State) : Mem 8 :=
  match ch with
  | .primary => s.src0
  | .auxiliary => s.src1

/-- The contents of `RSn` (R93). -/
def rsMem (ch : Channel) (s : State) : Mem 8 :=
  match ch with
  | .primary => s.rs0
  | .auxiliary => s.rs1

/-- `RSn_VALID` (R93). -/
def rsValid (ch : Channel) (s : State) : Bool :=
  match ch with
  | .primary => s.rs0Valid
  | .auxiliary => s.rs1Valid

/-- An element of `PALROM`, `{R, G, B}` (R41). -/
def romWord (c : Rgb) : RomWord := c.r ++ c.g ++ c.b

/-- The 256 elements of `PALROM`, equal to `P.PAL_RGB` at all times (R41). -/
def palrom (P : Params) : List RomWord := P.palRgb.toList.map romWord

/-- The element count of a space (R40, R60). -/
def spaceSize (P : Params) : Space → Nat
  | .palrom => 256
  | .lut => 256
  | .surf => P.surfSize
  | .fb => P.fbStride * P.fbHeight
  | .src0 => P.maxSrc
  | .src1 => P.maxSrc
  | .rs0 => P.tlenMax
  | .rs1 => P.tlenMax
  | .mixb => P.tlenMax
  | .out => P.tlenMax

/-- The element of a space extended with zeros to 32 bits (R182), none if it is unwritten. -/
def spaceRead (s : State) (space : Space) (i : Nat) : Option Word :=
  match space with
  | .palrom => (palrom s.cfg)[i]?.map (·.zeroExtend 32)
  | .lut => (s.lut.read i).map (·.zeroExtend 32)
  | .surf => (s.surf.read i).map (·.zeroExtend 32)
  | .fb => (s.fb.read i).map (·.zeroExtend 32)
  | .src0 => (s.src0.read i).map (·.zeroExtend 32)
  | .src1 => (s.src1.read i).map (·.zeroExtend 32)
  | .rs0 => (s.rs0.read i).map (·.zeroExtend 32)
  | .rs1 => (s.rs1.read i).map (·.zeroExtend 32)
  | .mixb => (s.mixb.read i).map (·.zeroExtend 32)
  | .out => s.out.read i

/-- What a host read of an element sees: the element, or any value where nothing has written it (R45, R182; log 4). -/
def hostElement (s : State) (space : Space) (i : Nat) : Word :=
  match spaceRead s space i with
  | some v => v
  | none => Config.unwritten s.epoch space i

end Sys2Proof.Machine
end

