-- ==== Sys2Proof/Machine/Flags.lean ====
section
/-! DEFINITION. `STATUS` (spec 10_state.md R25) and what a command that completes writes together with its valid flag
(R30). -/

namespace Sys2Proof.Machine

/-- The 32-bit value of `STATUS`, field by field as R25 and R176 lay it out; bits 31:16 read as 0. -/
def statusWord (s : State) : Word :=
  0#16 ++ s.errCode ++ BitVec.ofBool s.faulted ++ BitVec.ofBool s.outValid ++ BitVec.ofBool s.mixValid ++
    BitVec.ofBool s.rs1Valid ++ BitVec.ofBool s.rs0Valid ++ BitVec.ofBool s.tlenValid ++
    BitVec.ofBool s.videoValid ++ BitVec.ofBool s.lutValid

/-- The LUT is built and `LUT_VALID` set (R110). -/
def State.commitLut (s : State) (m : Mem 16) : State := { s with lut := m, lutValid := true }

/-- The framebuffer, the size of the blit and `VIDEO_VALID` (R122). -/
def State.commitBlit (s : State) (m : Mem 16) (w h : Word) : State :=
  { s with fb := m, videoW := w, videoH := h, videoValid := true }

/-- The target-length latch: `TLEN` and `TLEN_VALID`, once (R138). -/
def State.latchTlen (s : State) (t : Word) : State :=
  if s.tlenValid then s else { s with tlen := t, tlenValid := true }

/-- `RS0` and `RS0_VALID` (R135). -/
def State.commitRs0 (s : State) (m : Mem 8) : State := { s with rs0 := m, rs0Valid := true }

/-- `RS1` and `RS1_VALID` (R144). -/
def State.commitRs1 (s : State) (m : Mem 8) : State := { s with rs1 := m, rs1Valid := true }

/-- `RSn` and `RSn_VALID` of the channel (R135, R144). -/
def State.commitRs (s : State) (ch : Channel) (m : Mem 8) : State :=
  match ch with
  | .primary => s.commitRs0 m
  | .auxiliary => s.commitRs1 m

/-- `MIXB` and `MIX_VALID` (R155). -/
def State.commitMix (s : State) (m : Mem 8) : State := { s with mixb := m, mixValid := true }

/-- `OUT` and `OUT_VALID` (R165). -/
def State.commitOut (s : State) (m : Mem 32) : State := { s with out := m, outValid := true }

end Sys2Proof.Machine
end

