-- ==== Sys2Proof/Machine/Blitter.lean ====
section
/-! DEFINITION. `BLIT`, the indexed-to-native video blitter (spec 41_blitter.md R120 to R127). -/

namespace Sys2Proof.Machine

/-- `base`, the source offset of the visible rectangle (R122), a natural; R121 refuses `VIS_TOP < DISP_TOP` first. -/
def blitBase (s : State) : Nat := (s.visTop.toNat - s.dispTop.toNat) * s.visW.toNat

/-- The `SURF` index of source pixel (row `r`, column `c`) (R66, R122). -/
def surfIndex (s : State) (r c : Nat) : Nat := blitBase s + r * s.visW.toNat + c

/-- The `FB` index of pixel (row `r`, column `c`) (R43, R66). -/
def fbIndex (P : Params) (r c : Nat) : Nat := r * P.fbStride + c

/-- `check_blit()` (R121), in its order; products and sums on naturals (R13). -/
def checkBlit (s : State) : Option ErrCode :=
  if s.lutValid = false then some .lutUnbuilt
  else if s.cfg.fbStride < s.visW.toNat ∨ s.cfg.fbHeight < s.visH.toNat then some .blitGeometry
  else if s.visTop.toNat < s.dispTop.toNat then some .surfRange
  else if s.cfg.surfSize < blitBase s + s.visW.toNat * s.visH.toNat then some .surfRange
  else none

/-- The pixel of row `r`, column `c`: `LUT[SURF[base + r * W + c]]` (R122). -/
def blitPixel (s : State) (r c : Nat) : Except Fault Color :=
  match element .surf s.surf (surfIndex s r c) with
  | .error e => .error e
  | .ok idx => element .lut s.lut idx.toNat

/-- The `W` pixels of row `r` (R122). -/
def blitRow (s : State) (r : Nat) : Except Fault (List Color) :=
  collect (blitPixel s r) (List.range s.visW.toNat)

/-- The `H` rows of the visible rectangle (R122). -/
def blitRows (s : State) : Except Fault (List (List Color)) :=
  collect (blitRow s) (List.range s.visH.toNat)

/-- Rows `r`, `r + 1`, ... written into the framebuffer from column 0, advancing by the stride (R122). -/
def writeRows (P : Params) (m : Mem 16) : Nat → List (List Color) → Mem 16
  | _, [] => m
  | r, row :: rows => (writeRows P m (r + 1) rows).writeRun (fbIndex P r 0) row

/-- The effect of `BLIT` (R122). -/
def blitEffect (s : State) : Except Fault State :=
  match blitRows s with
  | .error e => .error e
  | .ok rows => .ok (s.commitBlit (writeRows s.cfg s.fb 0 rows) s.visW s.visH)

/-- `BLIT` (R120). -/
def execBlit (s : State) : Host.Outcome State Fault Refusal :=
  runCommand .blit checkBlit blitEffect s

end Sys2Proof.Machine
end

