-- ==== Sys2Proof/Machine/Mixer.lean ====
section
/-! DEFINITION. `MIX`, the dual-channel audio mixer (spec 43_mixer.md R155 to R158). -/

namespace Sys2Proof.Machine

/-- `mix2(a, b)`: the floor of the mean, the sum taken without wrap (R156). -/
def mix2 (a b : Byte) : Byte := BitVec.ofNat 8 ((a.toNat + b.toNat) / 2)

/-- The checks of `MIX` (R155, R158). -/
def checkMix (s : State) : Option ErrCode :=
  if s.rs0Valid = false then some .sequence
  else if s.auxPresent = true ∧ s.rs1Valid = false then some .sequence
  else none

/-- Element `i` of the mix: the mean when the auxiliary stream is present, else the primary sample (R156, R157). -/
def mixSample (s : State) (i : Nat) : Except Fault Byte :=
  match element .rs0 s.rs0 i with
  | .error e => .error e
  | .ok a =>
    if s.auxPresent then
      match element .rs1 s.rs1 i with
      | .error e => .error e
      | .ok b => .ok (mix2 a b)
    else .ok a

/-- The effect of `MIX` (R155): `MIXB[0..TLEN-1]` and `MIX_VALID`. -/
def mixEffect (s : State) : Except Fault State :=
  match collect (mixSample s) (List.range s.tlen.toNat) with
  | .error e => .error e
  | .ok vs => .ok (s.commitMix (s.mixb.writeRun 0 vs))

/-- `MIX` (R155). -/
def execMix (s : State) : Host.Outcome State Fault Refusal :=
  runCommand .mix checkMix mixEffect s

end Sys2Proof.Machine
end

