-- ==== Sys2Proof/Machine/Palette.lean ====
section
/-! DEFINITION. `PALBUILD`, the palette LUT colour converter (spec 40_palette.md R110 to R115). -/

namespace Sys2Proof.Machine

/-- `pack565(R, G, B)` (R111): the high 5, 6 and 5 bits of the channels; no rounding (R112). -/
def pack565 (r g b : Byte) : Color :=
  ((r.zeroExtend 16 &&& 0xF8) <<< 8) ||| ((g.zeroExtend 16 &&& 0xFC) <<< 3) ||| (b.zeroExtend 16 >>> 3)

/-- The LUT entry of a `PALROM` element `{R, G, B}` (R110). -/
def lutEntry (rgb : RomWord) : Color :=
  pack565 (rgb.extractLsb 23 16) (rgb.extractLsb 15 8) (rgb.extractLsb 7 0)

/-- The effect of `PALBUILD` (R110): all 256 elements of `LUT`, and `LUT_VALID`. -/
def buildLut (s : State) : State :=
  s.commitLut (s.lut.writeRun 0 ((palrom s.cfg).map lutEntry))

/-- `PALBUILD` (R110): no fault of its own. -/
def execPalbuild (s : State) : Host.Outcome State Fault Refusal :=
  runCommand .palbuild (fun _ => none) (fun s => .ok (buildLut s)) s

end Sys2Proof.Machine
end

