-- ==== Sys2Proof/Machine/Resampler.lean ====
section
/-! DEFINITION. `RESAMPLE ch`, the variable-to-fixed-rate audio resampler (spec 42_resampler.md R135 to R144). -/

namespace Sys2Proof.Machine

/-- `T = targetLength = O / F` (R136). -/
def targetLength (s : State) : Nat := s.outRate.toNat / s.chipFreq.toNat

/-- `max = sourceRate = F * S`, without wrap (R136). -/
def sourceRate (s : State) : Nat := s.chipFreq.toNat * s.scanlines.toNat

/-- `last_index(T, O, M)`, the index of the last source element read, for `T > 0` (R137). -/
def lastIndex (T O M : Nat) : Nat := if M = 0 then 0 else ceilDiv (T * M) O - 1

/-- `j(k)`, the closed form of the source index of the `k`-th emitted sample (R140). The machine runs the loop below;
this is the handier form that statements use. -/
def emittedIndex (O max k : Nat) : Nat := if max = 0 then 0 else ceilDiv ((k + 1) * max) O - 1

/-- `check_resample(n)` (R137), in its order. -/
def checkResample (ch : Channel) (s : State) : Option ErrCode :=
  if s.chipFreq.toNat = 0 then some .audioConfig
  else if s.tlenValid = true ∧ targetLength s ≠ s.tlen.toNat then some .rateChanged
  else if s.tlenValid = false ∧ s.cfg.tlenMax < targetLength s then some .tlenCapacity
  else if s.cfg.maxSrc < (srcLen ch s).toNat then some .resamplerOverflow
  else if 0 < targetLength s ∧ (srcLen ch s).toNat ≤ lastIndex (targetLength s) s.outRate.toNat (sourceRate s) then
    some .srcUnderrun
  else none

/-- The loop of R139 as the list of source indices it emits, in order. `remaining` is `targetLength - targetIndex`;
`fuel` bounds the iterations. -/
def decimate (O max : Nat) : (fuel remaining measurement sourceIndex : Nat) → List Nat
  | _, 0, _, _ => []
  | 0, _ + 1, _, _ => []
  | fuel + 1, remaining + 1, measurement, sourceIndex =>
    if max ≤ measurement then sourceIndex :: decimate O max fuel remaining (measurement - max) sourceIndex
    else decimate O max fuel (remaining + 1) (measurement + O) (sourceIndex + 1)

/-- The source indices of one `RESAMPLE`: `measurement` starts at `O`, both indices at 0 (R139). The loop makes
`T + last_index` iterations (R141), so the fuel never runs out. -/
def sourceIndices (T O max : Nat) : List Nat := decimate O max (T + lastIndex T O max) T O 0

/-- The source indices `RESAMPLE` reads in a state (R135). -/
def resampleIndices (s : State) : List Nat := sourceIndices (targetLength s) s.outRate.toNat (sourceRate s)

/-- The `T` samples `RESAMPLE` emits (R139). -/
def resampled (ch : Channel) (s : State) : Except Fault (List Byte) :=
  collect (element (srcSpace ch) (srcMem ch s)) (resampleIndices s)

/-- The effect of `RESAMPLE ch` (R135): the latch, `RSn[0..T-1]` and `RSn_VALID`. -/
def resampleEffect (ch : Channel) (s : State) : Except Fault State :=
  match resampled ch s with
  | .error e => .error e
  | .ok vs => .ok ((s.latchTlen (BitVec.ofNat 32 (targetLength s))).commitRs ch ((rsMem ch s).writeRun 0 vs))

/-- `RESAMPLE ch` (R135, R144). -/
def execResample (ch : Channel) (s : State) : Host.Outcome State Fault Refusal :=
  runCommand (.resample ch) (checkResample ch) (resampleEffect ch) s

end Sys2Proof.Machine
end

