-- ==== Sys2Proof/Machine/Widener.lean ====
section
/-! DEFINITION. `WIDEN`, the 8-bit to 16-bit PCM widener (spec 44_widener.md R165 to R168). -/

namespace Sys2Proof.Machine

/-- `s16(s) = {s[7:0], 0x00}` (R166). -/
def s16 (s : Byte) : BitVec 16 := s ++ (0x00 : Byte)

/-- `frame(s) = {s16(s), s16(s)}`: the same value in both lanes (R166, R167). -/
def frame (s : Byte) : Word := s16 s ++ s16 s

/-- The check of `WIDEN` (R165, R168). -/
def checkWiden (s : State) : Option ErrCode :=
  if s.mixValid = false then some .sequence else none

/-- Frame `i` of the output (R165). -/
def widenSample (s : State) (i : Nat) : Except Fault Word :=
  match element .mixb s.mixb i with
  | .error e => .error e
  | .ok v => .ok (frame v)

/-- The effect of `WIDEN` (R165): `OUT[0..TLEN-1]` and `OUT_VALID`. -/
def widenEffect (s : State) : Except Fault State :=
  match collect (widenSample s) (List.range s.tlen.toNat) with
  | .error e => .error e
  | .ok vs => .ok (s.commitOut (s.out.writeRun 0 vs))

/-- `WIDEN` (R165). -/
def execWiden (s : State) : Host.Outcome State Fault Refusal :=
  runCommand .widen checkWiden widenEffect s

end Sys2Proof.Machine
end

