-- ==== Sys2Proof/Machine/Dispatch.lean ====
section
/-! DEFINITION. The meaning of each command, one arm per constructor of `Instr`. -/

namespace Sys2Proof.Machine

def exec (i : Instr) (s : State) : Host.Outcome State Fault Refusal :=
  match i with
  | .palbuild => Sys2Proof.Machine.execPalbuild s
  | .blit => Sys2Proof.Machine.execBlit s
  | .resample ch => Sys2Proof.Machine.execResample ch s
  | .mix => Sys2Proof.Machine.execMix s
  | .widen => Sys2Proof.Machine.execWiden s

end Sys2Proof.Machine
end

