-- ==== Sys2Proof/Machine/HostAccess.lean ====
section
/-! DEFINITION. The host's register and memory transactions (spec 45_host_access.md R176 to R187). The write of a legal
word to `CMD` is in `Machine/Issue.lean`. -/

namespace Sys2Proof.Machine

/-- The access classes of registers (R21). -/
inductive Access where
  | rw
  | ro
  | wo
deriving DecidableEq, Repr

/-- The access class of each register (R21). -/
def regAccess : Reg → Access
  | .cmd => .wo
  | .status => .ro
  | .errinfo => .ro
  | .dispTop => .rw
  | .visTop => .rw
  | .visLeft => .rw
  | .visW => .rw
  | .visH => .rw
  | .videoW => .ro
  | .videoH => .ro
  | .outRate => .rw
  | .chipFreq => .rw
  | .scanlines => .rw
  | .src0Len => .rw
  | .src1Len => .rw
  | .auxPresent => .rw
  | .tlen => .ro
  | .cfgFbWidth => .ro
  | .cfgFbStride => .ro
  | .cfgFbHeight => .ro
  | .cfgSurfSize => .ro
  | .cfgMaxSrc => .ro
  | .cfgTlenMax => .ro

/-- The 32-bit value of a register (R176): `CMD` reads 0 (R24), `AUX_PRESENT` its bit (R23), the `CFG` registers the
parameters (R29). -/
def regRead (s : State) : Reg → Word
  | .cmd => 0
  | .status => statusWord s
  | .errinfo => s.errInfo
  | .dispTop => s.dispTop
  | .visTop => s.visTop
  | .visLeft => s.visLeft
  | .visW => s.visW
  | .visH => s.visH
  | .videoW => s.videoW
  | .videoH => s.videoH
  | .outRate => s.outRate
  | .chipFreq => s.chipFreq
  | .scanlines => s.scanlines
  | .src0Len => s.src0Len
  | .src1Len => s.src1Len
  | .auxPresent => (BitVec.ofBool s.auxPresent).zeroExtend 32
  | .tlen => s.tlen
  | .cfgFbWidth => BitVec.ofNat 32 s.cfg.fbWidth
  | .cfgFbStride => BitVec.ofNat 32 s.cfg.fbStride
  | .cfgFbHeight => BitVec.ofNat 32 s.cfg.fbHeight
  | .cfgSurfSize => BitVec.ofNat 32 s.cfg.surfSize
  | .cfgMaxSrc => BitVec.ofNat 32 s.cfg.maxSrc
  | .cfgTlenMax => BitVec.ofNat 32 s.cfg.tlenMax

/-- The store of a write to an RW register (R177); `AUX_PRESENT` keeps bit 0 (R23). No other register stores. -/
def regWrite (s : State) (r : Reg) (v : Word) : State :=
  match r with
  | .dispTop => { s with dispTop := v }
  | .visTop => { s with visTop := v }
  | .visLeft => { s with visLeft := v }
  | .visW => { s with visW := v }
  | .visH => { s with visH := v }
  | .outRate => { s with outRate := v }
  | .chipFreq => { s with chipFreq := v }
  | .scanlines => { s with scanlines := v }
  | .src0Len => { s with src0Len := v }
  | .src1Len => { s with src1Len := v }
  | .auxPresent => { s with auxPresent := v.getLsbD 0 }
  | .cmd => s
  | .status => s
  | .errinfo => s
  | .videoW => s
  | .videoH => s
  | .tlen => s
  | .cfgFbWidth => s
  | .cfgFbStride => s
  | .cfgFbHeight => s
  | .cfgSurfSize => s
  | .cfgMaxSrc => s
  | .cfgTlenMax => s

/-- `RD reg` (R176); an undefined number faults and returns 0 (R179), and while FAULTED only returns 0 (R206). -/
def hostReadReg (s : State) (n : Word) : State :=
  match Reg.ofNumber n with
  | some r => s.withReply (regRead s r)
  | none => (s.withReply 0).takeFault .addr n

/-- `WR reg, v` for a register other than `CMD`, while not FAULTED (R177, R178, R179). -/
def hostWriteReg (s : State) (n v : Word) : State :=
  match Reg.ofNumber n with
  | none => s.takeFault .addr n
  | some r => if regAccess r = .rw then regWrite s r v else s.takeFault .access n

/-- The two kinds of memory transaction (R181). -/
inductive AccessKind where
  | read
  | write
deriving DecidableEq, Repr

/-- The spaces with "host W" (R61). -/
def hostWritable : Space → Bool
  | .surf => true
  | .fb => true
  | .src0 => true
  | .src1 => true
  | .palrom => false
  | .lut => false
  | .rs0 => false
  | .rs1 => false
  | .mixb => false
  | .out => false

/-- `check_mem(kind, sp, i)` (R181), in its order: the space accessed, or the fault raised. -/
def checkMem (P : Params) (kind : AccessKind) (sp i : Nat) : Except ErrCode Space :=
  match Space.ofId sp with
  | none => .error .addr
  | some space =>
    if kind = .write ∧ hostWritable space = false then .error .access
    else if kind = .write ∧ (space = .src0 ∨ space = .src1) ∧ P.maxSrc ≤ i then .error .resamplerOverflow
    else if spaceSize P space ≤ i then .error .addr
    else .ok space

/-- The store of a memory write, `MemWrite(sp, i, trunc_N(v))` (R183). Only the four writable spaces store. -/
def spaceWrite (s : State) (space : Space) (i : Nat) (v : Word) : State :=
  match space with
  | .surf => { s with surf := s.surf.write i (v.truncate 8) }
  | .fb => { s with fb := s.fb.write i (v.truncate 16) }
  | .src0 => { s with src0 := s.src0.write i (v.truncate 8) }
  | .src1 => { s with src1 := s.src1.write i (v.truncate 8) }
  | .palrom => s
  | .lut => s
  | .rs0 => s
  | .rs1 => s
  | .mixb => s
  | .out => s

/-- `RM sp[i]` (R181, R182); a faulting read returns 0, and while FAULTED records nothing (R189, R206). -/
def hostReadMem (s : State) (sp : Nat) (i : Word) : State :=
  match checkMem s.cfg .read sp i.toNat with
  | .ok space => s.withReply (hostElement s space i.toNat)
  | .error c => (s.withReply 0).takeFault c i

/-- `WM sp[i], v` while not FAULTED (R181, R183). -/
def hostWriteMem (s : State) (sp : Nat) (i v : Word) : State :=
  match checkMem s.cfg .write sp i.toNat with
  | .ok space => spaceWrite s space i.toNat v
  | .error c => s.takeFault c i

end Sys2Proof.Machine
end

