-- ==== Sys2Proof/Machine/Issue.lean ====
section
/-! DEFINITION. One host transaction (spec 45_host_access.md R175), the write to `CMD` among them (R180). -/

namespace Sys2Proof.Machine

/-- `WR CMD, w` while not FAULTED (R180): an illegal word faults, a legal one runs its command to completion. -/
def issueCommand (s : State) (w : Word) : Host.Outcome State Fault Refusal :=
  match decode w with
  | .error _ => .next (s.takeFault .illegalCmd w)
  | .ok i => exec i s

/-- `WR reg, v` while not FAULTED (R177 to R180). -/
def writeRegister (s : State) (n v : Word) : Host.Outcome State Fault Refusal :=
  if n = Reg.cmd.number then issueCommand s v else .next (hostWriteReg s n v)

/-- One host transaction. While FAULTED every write is ignored before any check (R205, R206); reads answer in every
state; `RESET` is legal in every state (R188). -/
def transact (t : Transaction) (s : State) : Host.Outcome State Fault Refusal :=
  match t with
  | .wr n v => if s.faulted then .next s else writeRegister s n v
  | .rd n => .next (hostReadReg s n)
  | .wm sp i v => if s.faulted then .next s else .next (hostWriteMem s sp i v)
  | .rm sp i => .next (hostReadMem s sp i)
  | .reset => .next s.afterReset

end Sys2Proof.Machine
end

