-- ==== Sys2Proof/Machine/Step.lean ====
section
/-! DEFINITION. One step: the block performs the oldest transaction the host has issued, one transaction a step (spec
00_scope.md R8). -/

namespace Sys2Proof.Machine

/-- With no transaction issued the block does nothing (R8, R9; log 11). -/
def step (s : State) : Host.Outcome State Fault Refusal :=
  match s.pending with
  | [] => .next s
  | t :: rest => transact t (s.dequeue rest)

/-- The word of a table row as the next transaction, `WR CMD, w`: the way a command reaches the block (R24, R33; log 2). -/
def State.withFetchWord (s : State) (nbits w : Nat) : State :=
  { s with pending := .wr Reg.cmd.number (tableWord nbits w) :: s.pending }

end Sys2Proof.Machine
end

