-- ==== Sys2Proof/Machine/HostMacros.lean ====
section
/-! DEFINITION. Commands as transactions (spec 30_encoding.md R98), the host's pseudo-instructions (R100), and the reads
by which the host submits audio and presents video (20_memory.md R72). Each is a list of transactions in order; "the
block knows nothing of them". -/

namespace Sys2Proof.Machine

/-- `WR CMD, <word>`, what a mnemonic stands for (R98). -/
def issue (i : Instr) : Transaction := .wr Reg.cmd.number (encode i)

/-- `SETRECT dtop, top, left, w, h` (R100). -/
def setRect (dtop top left w h : Word) : List Transaction :=
  [.wr Reg.dispTop.number dtop, .wr Reg.visTop.number top, .wr Reg.visLeft.number left, .wr Reg.visW.number w,
   .wr Reg.visH.number h]

/-- `SETRATES out, freq, lines` (R100). -/
def setRates (out freq lines : Word) : List Transaction :=
  [.wr Reg.outRate.number out, .wr Reg.chipFreq.number freq, .wr Reg.scanlines.number lines]

/-- `LOADAT <space>, k, [v0, v1, ...]` (R100). DESIGN CHOICE (log 18): an index `k + j` that reaches 2^32 wraps to 0. R175
allows no such index and R100 says nothing of it. It cannot be observed, since the write at 0xFFFFFFFF before it faults or
is ignored. -/
def loadAt (space : Space) (k : Word) : List Word → List Transaction
  | [] => []
  | v :: vs => .wm space.id k v :: loadAt space (k + 1) vs

/-- `LOAD <space>, [v0, v1, ...]` (R100). -/
def load (space : Space) (vs : List Word) : List Transaction := loadAt space 0 vs

/-- `AUDIOFRAME`; `aux` is bit 0 of what the host last wrote to `AUX_PRESENT` (R100). -/
def audioFrame (aux : Bool) : List Transaction :=
  if aux then [issue (.resample .primary), issue (.resample .auxiliary), issue .mix, issue .widen]
  else [issue (.resample .primary), issue .mix, issue .widen]

/-- `FRAME` (R100). -/
def displayFrame (aux : Bool) : List Transaction := issue .blit :: audioFrame aux

/-- The reads of `submit(buffer, frameCount)`: `TLEN`, then `OUT` elements 0 to `tlen - 1` (R72, R240 step 8). Indices are
kept to 32 bits (DESIGN CHOICE, log 18). -/
def submitReads (tlen : Nat) : List Transaction :=
  .rd Reg.tlen.number :: (List.range tlen).map (fun i => .rm Space.out.id (BitVec.ofNat 32 i))

/-- The reads of `present`: `VIDEO_W`, `VIDEO_H`, then the pixels of the top-left `w` by `h` region of `FB`, whose rows
are `stride` apart (R72, R240 step 9). Indices are kept to 32 bits (DESIGN CHOICE, log 18). -/
def presentReads (stride w h : Nat) : List Transaction :=
  .rd Reg.videoW.number :: .rd Reg.videoH.number ::
    (List.range h).flatMap (fun r =>
      (List.range w).map (fun c => .rm Space.fb.id (BitVec.ofNat 32 (r * stride + c))))

/-- The boot steps 1 to 3 of the host (70_reset_and_hazards.md R235), after a `RESET`. -/
def bootSequence (out freq lines aux : Word) : List Transaction :=
  .reset :: issue .palbuild :: setRates out freq lines ++ [.wr Reg.auxPresent.number aux]

/-- A raw stream copied into the working buffer of a channel, and its length (R240 step 4). The length is kept to 32 bits
(DESIGN CHOICE, log 18). -/
def supplyStream (ch : Channel) (vs : List Word) : List Transaction :=
  match ch with
  | .primary => load .src0 vs ++ [.wr Reg.src0Len.number (BitVec.ofNat 32 vs.length)]
  | .auxiliary => load .src1 vs ++ [.wr Reg.src1Len.number (BitVec.ofNat 32 vs.length)]

/-- The transactions of one displayed frame with the primary stream only, in the order of R240 (steps 2 to 9): the
geometry and the surface, `BLIT`, the stream, the audio commands, then the reads that submit and present. -/
def frameTransactions (P : Params) (dtop top left : Word) (w h tlen : Nat) (surface stream : List Word) :
    List Transaction :=
  setRect dtop top left (BitVec.ofNat 32 w) (BitVec.ofNat 32 h) ++ load .surf surface ++ [issue .blit] ++
    supplyStream .primary stream ++ [.wr Reg.auxPresent.number 0] ++ audioFrame false ++ submitReads tlen ++
    presentReads P.fbStride w h

/-- The bytes of a frame, lowest address first, in the byte-addressed wrapper for which 20_memory.md R63 chooses little
endian. No rule of the block depends on it. -/
def frameBytes (f : Word) : List Byte :=
  [f.extractLsb 7 0, f.extractLsb 15 8, f.extractLsb 23 16, f.extractLsb 31 24]

end Sys2Proof.Machine
end

