-- ==== Sys2Proof/Safety.lean ====
section
/-! DEFINITION. What counts as a good state and a safe run, in the terms the statements use. -/

namespace Sys2Proof.Machine

/-- The canonical form of the whole memory: in each of the nine stored spaces the indices rise strictly. -/
abbrev State.memoryWf (s : State) : Prop :=
  s.lut.wf ∧ s.surf.wf ∧ s.fb.wf ∧ s.src0.wf ∧ s.src1.wf ∧ s.rs0.wf ∧ s.rs1.wf ∧ s.mixb.wf ∧ s.out.wf

/-- Every written element lies inside its space (R60): no buffer is overrun. -/
abbrev State.memoryInRange (s : State) : Prop :=
  s.lut.below (spaceSize s.cfg .lut) ∧ s.surf.below (spaceSize s.cfg .surf) ∧ s.fb.below (spaceSize s.cfg .fb) ∧
    s.src0.below (spaceSize s.cfg .src0) ∧ s.src1.below (spaceSize s.cfg .src1) ∧
    s.rs0.below (spaceSize s.cfg .rs0) ∧ s.rs1.below (spaceSize s.cfg .rs1) ∧
    s.mixb.below (spaceSize s.cfg .mixb) ∧ s.out.below (spaceSize s.cfg .out)

/-- The first `n` elements of a space are written. -/
def Mem.writtenBelow {width : Nat} (m : Mem width) (n : Nat) : Prop := ∀ i < n, ∃ v, m.read i = some v

/-- The invariant of the block. Every reachable state has it: it holds at reset and every step keeps it. -/
structure State.Invariant (s : State) : Prop where
  /-- the memory is in canonical form -/
  canonical : s.memoryWf
  /-- no space holds an element beyond its size (R64) -/
  inRange : s.memoryInRange
  /-- `LUT_VALID`: the LUT holds the converted palette (R114) -/
  lutBuilt : s.lutValid = true → ∀ i < 256, s.lut.read i = (palrom s.cfg)[i]?.map lutEntry
  /-- nothing but `PALBUILD` writes the LUT (R42) -/
  lutUnbuilt : s.lutValid = false → s.lut = []
  /-- `VIDEO_W` and `VIDEO_H` fit the framebuffer (R27, R121) -/
  videoFits : s.videoW.toNat ≤ s.cfg.fbStride ∧ s.videoH.toNat ≤ s.cfg.fbHeight
  /-- they are 0 until a blit completes (R27) -/
  videoUnset : s.videoValid = false → s.videoW = 0 ∧ s.videoH = 0
  /-- the latched length fits the buffers (R28) -/
  tlenFits : s.tlen.toNat ≤ s.cfg.tlenMax
  /-- it is 0 until it is latched (R28) -/
  tlenUnset : s.tlenValid = false → s.tlen = 0
  /-- `RS0_VALID` (R25, R158) -/
  rs0Written : s.rs0Valid = true → s.tlenValid = true ∧ s.rs0.writtenBelow s.tlen.toNat
  /-- `RS1_VALID` (R25, R158) -/
  rs1Written : s.rs1Valid = true → s.tlenValid = true ∧ s.rs1.writtenBelow s.tlen.toNat
  /-- `MIX_VALID` (R25, R168) -/
  mixWritten : s.mixValid = true → s.tlenValid = true ∧ s.mixb.writtenBelow s.tlen.toNat
  /-- `OUT_VALID` (R25) -/
  outWritten : s.outValid = true → s.tlenValid = true ∧ s.out.writtenBelow s.tlen.toNat
  /-- only the first `TLEN` elements of the audio buffers are ever written (R44) -/
  audioBelowTlen : s.rs0.below s.tlen.toNat ∧ s.rs1.below s.tlen.toNat ∧ s.mixb.below s.tlen.toNat ∧
    s.out.below s.tlen.toNat
  /-- no fault, no code and no detail (R25, R26) -/
  noRecord : s.faulted = false → s.errCode = 0 ∧ s.errInfo = 0
  /-- the code of a recorded fault is one of 0x01 to 0x0C (R196) -/
  recordCode : s.faulted = true → 1 ≤ s.errCode.toNat ∧ s.errCode.toNat ≤ 12

/-- The states a run from reset can reach, whatever transactions the host issues between steps (R9, R231). -/
inductive Reachable (P : Params) : State → Prop
  | reset : Reachable P (State.resetOf P)
  | issued (s : State) (ts : List Transaction) : Reachable P s → Reachable P { s with pending := s.pending ++ ts }
  | stepped (s t : State) : Reachable P s → step s = .next t → Reachable P t

/-- What `ERRINFO` records of a transaction that faults (R26, R196): the command word, the register number or the
element index. -/
def faultInfo : Transaction → Word
  | .wr n v => if n = Reg.cmd.number then v else n
  | .rd n => n
  | .wm _ i _ => i
  | .rm _ i => i
  | .reset => 0

end Sys2Proof.Machine
end

