-- ==== Sys2Proof/Certificates/Slice0/Obligations.lean ====
section
/-! DEFINITION. The statements for the provers. Each docstring names the rule of spec/ it formalises; record updates are
written out, so that each statement says which fields change and that no other does. -/

open Sys2Proof Sys2Proof.Machine

/-! ## Encoding -/

/-- The six command words of the opcode map decode to their commands (30_encoding.md R92). -/
def Obligations.LegalWordsDecode : Prop :=
  decode 0x00000001 = .ok .palbuild ∧ decode 0x00000002 = .ok .blit ∧
    decode 0x00000003 = .ok (.resample .primary) ∧ decode 0x00000103 = .ok (.resample .auxiliary) ∧
    decode 0x00000004 = .ok .mix ∧ decode 0x00000005 = .ok .widen

/-- R92: decoding and encoding agree, the six words are the only ones that decode, and `RESAMPLE` is mask 0xFFFFFEFF,
match 3, with `CH` = `w[8]`. -/
def Obligations.DecodeAcceptsExactlyTheSixWords : Prop :=
  (∀ (w : Word) (i : Instr), decode w = .ok i ↔ w = encode i) ∧
    encode .palbuild = 0x00000001 ∧ encode .blit = 0x00000002 ∧ encode (.resample .primary) = 0x00000003 ∧
    encode (.resample .auxiliary) = 0x00000103 ∧ encode .mix = 0x00000004 ∧ encode .widen = 0x00000005 ∧
    ∀ w : Word, w &&& 0xFFFFFEFF = 0x00000003 ↔
      decode w = .ok (.resample (if w.getLsbD 8 then .auxiliary else .primary))

/-- R94, R197: the illegal words are those the rule lists, and writing one to `CMD` while not FAULTED records
`ERR_ILLEGAL_CMD` and executes nothing. -/
def Obligations.IllegalWordIsRecordedAndExecutesNothing : Prop :=
  ∀ w : Word,
    ((∀ i, decode w ≠ .ok i) ↔
      (w.extractLsb 7 0 = 0x00 ∨ 0x06 ≤ (w.extractLsb 7 0).toNat ∨ w.extractLsb 31 9 ≠ 0 ∨
        (w.extractLsb 8 8 = 1 ∧ w.extractLsb 7 0 ≠ 0x03))) ∧
    ∀ (s : State) (rest : List Transaction), s.pending = .wr 0x00 w :: rest → s.faulted = false →
      (∀ i, decode w ≠ .ok i) →
      step s = .next { s with pending := rest, reply := none, faulted := true, errCode := 0x01, errInfo := w }

/-! ## Steps -/

/-- A step whose transaction writes a legal word to `CMD` is the command's meaning on the state with the transaction
taken. For a block that is not FAULTED this is 45_host_access.md R180. For a FAULTED one it is the model's own reading
(log 12, DEDUCED from 60_exceptions.md R206): the write is ignored, and `exec` itself checks `FAULT` and does nothing. -/
def Obligations.StepRunsTheIssuedCommand : Prop :=
  ∀ (s : State) (rest : List Transaction) (w : Word) (i : Instr), s.pending = .wr 0x00 w :: rest →
    decode w = .ok i → step s = exec i { s with pending := rest, reply := none }

/-- R180: a `CMD` write while not FAULTED decodes its word; an illegal one faults with `ERRINFO` = the word, a legal one
runs its command, and a fault the command raises has `ERRINFO` = the word. -/
def Obligations.CmdWriteIssuesItsCommand : Prop :=
  ∀ (s : State) (rest : List Transaction) (w : Word), s.pending = .wr 0x00 w :: rest → s.faulted = false →
    (∀ e, decode w = .error e →
      step s = .next { s with pending := rest, reply := none, faulted := true, errCode := 0x01, errInfo := w }) ∧
    ∀ i, decode w = .ok i → step s = exec i { s with pending := rest, reply := none } ∧
      ∀ t, step s = .next t → t.faulted = true → t.errInfo = w

/-- With no transaction issued the block does nothing: the model's reading of 00_scope.md R8 and R9 (log 11). -/
def Obligations.IdleBlockKeepsItsState : Prop :=
  ∀ s : State, s.pending = [] → step s = .next s

/-- No step is refused: every transaction and every command has a meaning. -/
def Obligations.StepIsNeverRefused : Prop :=
  ∀ (s : State) (r : Refusal), step s ≠ .refused r

/-! ## PALBUILD -/

/-- R111: `pack565` is the formula on naturals, is `{R[7:3], G[7:2], B[7:3]}`, and its three terms add up. -/
def Obligations.Pack565KeepsTheHighBits : Prop :=
  ∀ r g b : Byte,
    (pack565 r g b).toNat =
      (((r.toNat &&& 0xF8) <<< 8) ||| ((g.toNat &&& 0xFC) <<< 3) ||| (b.toNat >>> 3)) ∧
    (pack565 r g b).toNat = ((r.toNat &&& 0xF8) <<< 8) + ((g.toNat &&& 0xFC) <<< 3) + (b.toNat >>> 3) ∧
    pack565 r g b = r.extractLsb 7 3 ++ g.extractLsb 7 2 ++ b.extractLsb 7 3

/-- R112: the conversion truncates, with the rule's three examples. -/
def Obligations.Pack565NeverRounds : Prop :=
  (∀ r g b : Byte, pack565 r g b = pack565 (r &&& 0xF8) (g &&& 0xFC) (b &&& 0xF8)) ∧
    pack565 7 3 7 = 0x0000 ∧ pack565 0xF8 0xFC 0xF8 = 0xFFFF ∧ pack565 255 255 255 = 0xFFFF

/-- R110: `PALBUILD` completes in every state that is not FAULTED, writes all 256 elements of `LUT` and `LUT_VALID`, and
nothing else; in the FAULTED state it does nothing. -/
def Obligations.PalbuildBuildsTheLut : Prop :=
  encode .palbuild = 0x00000001 ∧
  ∀ s : State,
    (s.faulted = true → exec .palbuild s = .next s) ∧
    (s.faulted = false → ∃ t, exec .palbuild s = .next t ∧
      t = { s with lut := t.lut, lutValid := true } ∧
      (∀ (i : Nat) (h : i < 256),
        t.lut.read i = some (pack565 s.cfg.palRgb[i].r s.cfg.palRgb[i].g s.cfg.palRgb[i].b)) ∧
      ∀ i, 256 ≤ i → t.lut.read i = s.lut.read i)

/-- R113: every execution of `PALBUILD` completes and writes the same 256 values; once the LUT is built no step but a
reset changes it, another `PALBUILD` included; built or not, no other command and no host write changes it. -/
def Obligations.LutIsImmutableUntilReset : Prop :=
  (∀ s : State, ∃ t, exec .palbuild s = .next t) ∧
  (∀ s u t v : State, s.cfg = u.cfg → s.faulted = false → u.faulted = false → exec .palbuild s = .next t →
    exec .palbuild u = .next v → ∀ i < 256, t.lut.read i = v.lut.read i) ∧
  (∀ s t : State, step s = .next t → (∀ rest, s.pending ≠ .reset :: rest) →
    (∀ rest, s.pending ≠ .wr 0x00 (encode .palbuild) :: rest) → t.lut = s.lut) ∧
  ∀ s t : State, s.Invariant → s.lutValid = true → step s = .next t → (∀ rest, s.pending ≠ .reset :: rest) →
    t.lut = s.lut ∧ t.lutValid = true

/-! ## BLIT -/

/-- R121: the four checks in their order, each with its code; nothing but the fault record changes. -/
def Obligations.BlitChecksInOrder : Prop :=
  ∀ s : State, s.faulted = false →
    (s.lutValid = false →
      exec .blit s = .next { s with faulted := true, errCode := 0x03, errInfo := 0x00000002 }) ∧
    (s.lutValid = true → (s.cfg.fbStride < s.visW.toNat ∨ s.cfg.fbHeight < s.visH.toNat) →
      exec .blit s = .next { s with faulted := true, errCode := 0x04, errInfo := 0x00000002 }) ∧
    (s.lutValid = true → s.visW.toNat ≤ s.cfg.fbStride → s.visH.toNat ≤ s.cfg.fbHeight →
      s.visTop.toNat < s.dispTop.toNat →
      exec .blit s = .next { s with faulted := true, errCode := 0x05, errInfo := 0x00000002 }) ∧
    (s.lutValid = true → s.visW.toNat ≤ s.cfg.fbStride → s.visH.toNat ≤ s.cfg.fbHeight →
      s.dispTop.toNat ≤ s.visTop.toNat →
      s.cfg.surfSize < (s.visTop.toNat - s.dispTop.toNat) * s.visW.toNat + s.visW.toNat * s.visH.toNat →
      exec .blit s = .next { s with faulted := true, errCode := 0x05, errInfo := 0x00000002 })

/-- R122, R123: a `BLIT` whose checks pass and whose surface and LUT elements are written completes; pixel (r, c) is
`LUT[SURF[base + r * W + c]]` at `FB` index `r * FB_STRIDE + c`, `VIDEO_W`, `VIDEO_H` and `VIDEO_VALID` are set, every
other element of `FB` and every other part of the state is as before. -/
def Obligations.BlitCopiesTheVisibleRectangle : Prop :=
  ∀ s : State, s.faulted = false → s.lutValid = true → s.visW.toNat ≤ s.cfg.fbStride →
    s.visH.toNat ≤ s.cfg.fbHeight → s.dispTop.toNat ≤ s.visTop.toNat →
    (s.visTop.toNat - s.dispTop.toNat) * s.visW.toNat + s.visW.toNat * s.visH.toNat ≤ s.cfg.surfSize →
    (∀ i < 256, ∃ p, s.lut.read i = some p) →
    (∀ r < s.visH.toNat, ∀ c < s.visW.toNat, ∃ idx, s.surf.read
      ((s.visTop.toNat - s.dispTop.toNat) * s.visW.toNat + r * s.visW.toNat + c) = some idx) →
    ∃ t, exec .blit s = .next t ∧
      t = { s with fb := t.fb, videoW := s.visW, videoH := s.visH, videoValid := true } ∧
      (∀ r < s.visH.toNat, ∀ c < s.visW.toNat, ∃ idx p,
        s.surf.read ((s.visTop.toNat - s.dispTop.toNat) * s.visW.toNat + r * s.visW.toNat + c) = some idx ∧
        s.lut.read idx.toNat = some p ∧ t.fb.read (r * s.cfg.fbStride + c) = some p) ∧
      ∀ a, (∀ r < s.visH.toNat, ∀ c < s.visW.toNat, a ≠ r * s.cfg.fbStride + c) → t.fb.read a = s.fb.read a

/-- 41_blitter.md R124: when the checks of `BLIT` pass, every index it accesses is inside its space. -/
def Obligations.BlitAccessesStayInRange : Prop :=
  ∀ s : State, checkBlit s = none → ∀ r < s.visH.toNat, ∀ c < s.visW.toNat,
    fbIndex s.cfg r c < spaceSize s.cfg .fb ∧ surfIndex s r c < spaceSize s.cfg .surf

/-- R125: a rectangle of zero size whose checks pass sets the size registers and the flag and touches no memory; with
`VIS_W` = 0 the base is 0. -/
def Obligations.BlitOfZeroSizeTouchesNoMemory : Prop :=
  ∀ s : State, s.faulted = false → s.lutValid = true → s.visW.toNat ≤ s.cfg.fbStride →
    s.visH.toNat ≤ s.cfg.fbHeight → s.dispTop.toNat ≤ s.visTop.toNat →
    (s.visTop.toNat - s.dispTop.toNat) * s.visW.toNat ≤ s.cfg.surfSize → (s.visW = 0 ∨ s.visH = 0) →
    exec .blit s = .next { s with videoW := s.visW, videoH := s.visH, videoValid := true } ∧
      (s.visW = 0 → blitBase s = 0)

/-- R127, the end-to-end scenario: entry 0 black, entry 1 white, the surface row 0, 1, 0, 1, width 4 (height 1 and both
tops 0, as 95_test_vectors.md P1 runs it) gives the row 0x0000, 0xFFFF, 0x0000, 0xFFFF. -/
def Obligations.BlitEndToEndRow : Prop :=
  ∀ s : State, s.faulted = false → s.lutValid = true →
    (∀ (i : Nat) (h : i < 256),
      s.lut.read i = some (pack565 s.cfg.palRgb[i].r s.cfg.palRgb[i].g s.cfg.palRgb[i].b)) →
    s.cfg.palRgb[0] = ⟨0, 0, 0⟩ → s.cfg.palRgb[1] = ⟨255, 255, 255⟩ →
    s.dispTop = 0 → s.visTop = 0 → s.visW = 4 → s.visH = 1 → 4 ≤ s.cfg.fbStride → 4 ≤ s.cfg.surfSize →
    s.surf.read 0 = some 0 → s.surf.read 1 = some 1 → s.surf.read 2 = some 0 → s.surf.read 3 = some 1 →
    ∃ t, exec .blit s = .next t ∧ t.fb.read 0 = some 0x0000 ∧ t.fb.read 1 = some 0xFFFF ∧
      t.fb.read 2 = some 0x0000 ∧ t.fb.read 3 = some 0xFFFF ∧ t.videoW = 4 ∧ t.videoH = 1

/-- 10_state.md R45, 60_exceptions.md R209 for `BLIT`: when the checks pass and the LUT is written, a `BLIT` that would
read an unwritten element of `SURF` stops with `Uninit` at such an element of the rectangle. -/
def Obligations.BlitOfUnwrittenSurfaceStops : Prop :=
  ∀ s : State, s.faulted = false → checkBlit s = none → (∀ i < 256, ∃ p, s.lut.read i = some p) →
    (∃ r < s.visH.toNat, ∃ c < s.visW.toNat, s.surf.read (surfIndex s r c) = none) →
    ∃ r < s.visH.toNat, ∃ c < s.visW.toNat, s.surf.read (surfIndex s r c) = none ∧
      exec .blit s = .fault (.uninit .surf (surfIndex s r c))

/-! ## RESAMPLE -/

/-- R137: the five checks in their order, each with its code; nothing but the fault record changes. When they pass,
every index read is below the length and `MAX_SRC`, and (in a state with the block's invariant, for the latch) the target
length is at most `TLEN_MAX`. -/
def Obligations.ResampleChecksInOrder : Prop :=
  (∀ T O M : Nat, lastIndex T O M = if M = 0 then 0 else (T * M + O - 1) / O - 1) ∧
  (∀ (s : State) (ch : Channel), checkResample ch s = none →
    (∀ j ∈ resampleIndices s, j < (srcLen ch s).toNat ∧ j < s.cfg.maxSrc) ∧
    (s.Invariant → targetLength s ≤ s.cfg.tlenMax)) ∧
  ∀ (s : State) (ch : Channel) (T : Nat), s.faulted = false →
    T = s.outRate.toNat / s.chipFreq.toNat →
    (s.chipFreq = 0 →
      exec (.resample ch) s =
        .next { s with faulted := true, errCode := 0x06, errInfo := encode (.resample ch) }) ∧
    (s.chipFreq ≠ 0 → s.tlenValid = true → T ≠ s.tlen.toNat →
      exec (.resample ch) s =
        .next { s with faulted := true, errCode := 0x07, errInfo := encode (.resample ch) }) ∧
    (s.chipFreq ≠ 0 → s.tlenValid = false → s.cfg.tlenMax < T →
      exec (.resample ch) s =
        .next { s with faulted := true, errCode := 0x08, errInfo := encode (.resample ch) }) ∧
    (s.chipFreq ≠ 0 → (s.tlenValid = true → T = s.tlen.toNat) → (s.tlenValid = false → T ≤ s.cfg.tlenMax) →
      s.cfg.maxSrc < (srcLen ch s).toNat →
      exec (.resample ch) s =
        .next { s with faulted := true, errCode := 0x09, errInfo := encode (.resample ch) }) ∧
    (s.chipFreq ≠ 0 → (s.tlenValid = true → T = s.tlen.toNat) → (s.tlenValid = false → T ≤ s.cfg.tlenMax) →
      (srcLen ch s).toNat ≤ s.cfg.maxSrc → 0 < T →
      (srcLen ch s).toNat ≤ lastIndex T s.outRate.toNat (s.chipFreq.toNat * s.scanlines.toNat) →
      exec (.resample ch) s =
        .next { s with faulted := true, errCode := 0x0A, errInfo := encode (.resample ch) })

/-- 42_resampler.md R140: the loop's source indices are the closed form, which never decreases and whose last is
`last_index`; `SCANLINES` samples are always enough. -/
def Obligations.SourceIndicesAreTheClosedForm : Prop :=
  (∀ T O max : Nat, 0 < O →
    sourceIndices T O max =
      (List.range T).map (fun k => if max = 0 then 0 else ((k + 1) * max + O - 1) / O - 1) ∧
    (∀ k l, k ≤ l → emittedIndex O max k ≤ emittedIndex O max l) ∧
    (0 < T → emittedIndex O max (T - 1) = lastIndex T O max)) ∧
  ∀ O F S : Nat, 0 < F → F ≤ O → 0 < S → lastIndex (O / F) O (F * S) ≤ S - 1

/-- 42_resampler.md R141: with `T > 0` the loop ends after exactly `T + j(T - 1)` iterations; with `T = 0` it runs none. -/
def Obligations.DecimationTakesExactlyItsIterations : Prop :=
  (∀ T O max fuel : Nat, 0 < O → 0 < T →
    ((decimate O max fuel T O 0).length = T ↔ T + lastIndex T O max ≤ fuel)) ∧
  ∀ O max fuel : Nat, decimate O max fuel 0 O 0 = []

/-- 42_resampler.md R135, R138: a `RESAMPLE` whose checks pass and whose source elements are written completes; sample
`k` is `SRCn[j(k)]`, the length is latched, `RSn_VALID` is set, and nothing else changes. -/
def Obligations.ResampleEmitsTheTargetLength : Prop :=
  ∀ (s : State) (ch : Channel) (T : Nat), s.faulted = false → s.chipFreq ≠ 0 →
    T = s.outRate.toNat / s.chipFreq.toNat →
    (s.tlenValid = true → T = s.tlen.toNat) → (s.tlenValid = false → T ≤ s.cfg.tlenMax) →
    (srcLen ch s).toNat ≤ s.cfg.maxSrc →
    (0 < T → lastIndex T s.outRate.toNat (s.chipFreq.toNat * s.scanlines.toNat) < (srcLen ch s).toNat) →
    (∀ k < T, ∃ v, (srcMem ch s).read
      (emittedIndex s.outRate.toNat (s.chipFreq.toNat * s.scanlines.toNat) k) = some v) →
    ∃ t, exec (.resample ch) s = .next t ∧
      (ch = .primary →
        t = { s with tlen := BitVec.ofNat 32 T, tlenValid := true, rs0 := t.rs0, rs0Valid := true }) ∧
      (ch = .auxiliary →
        t = { s with tlen := BitVec.ofNat 32 T, tlenValid := true, rs1 := t.rs1, rs1Valid := true }) ∧
      (∀ k < T, (rsMem ch t).read k =
        (srcMem ch s).read (emittedIndex s.outRate.toNat (s.chipFreq.toNat * s.scanlines.toNat) k)) ∧
      ∀ k, T ≤ k → (rsMem ch t).read k = (rsMem ch s).read k

/-- R143: after a successful `RESAMPLE`, the first `T` elements are copies of source elements below the length, the
others and the source are as before, the flags are set even when `T` = 0, and a constant source gives a constant
output. -/
def Obligations.ResampleCopiesSourceElements : Prop :=
  ∀ (s t : State) (ch : Channel) (T : Nat), exec (.resample ch) s = .next t → t.faulted = false →
    T = s.outRate.toNat / s.chipFreq.toNat →
    (∀ k < T, ∃ j < (srcLen ch s).toNat, ∃ v, (srcMem ch s).read j = some v ∧ (rsMem ch t).read k = some v) ∧
    (∀ k, T ≤ k → (rsMem ch t).read k = (rsMem ch s).read k) ∧
    t.src0 = s.src0 ∧ t.src1 = s.src1 ∧ rsValid ch t = true ∧ t.tlenValid = true ∧ t.tlen.toNat = T ∧
    (T = 0 → rsMem ch t = rsMem ch s) ∧
    ∀ v, (∀ j < (srcLen ch s).toNat, ∀ u, (srcMem ch s).read j = some u → u = v) →
      ∀ k < T, (rsMem ch t).read k = some v

/-- 42_resampler.md R144: `RESAMPLE 1` is `RESAMPLE 0` with the auxiliary registers, space and flag in place of the
primary ones, and neither depends on `AUX_PRESENT` (in the FAULTED state they do nothing, log 12). -/
def Obligations.AuxiliaryResampleIsThePrimaryOne : Prop :=
  (∀ s t : State,
    exec (.resample .primary)
      { s with src0 := s.src1, src0Len := s.src1Len, rs0 := s.rs1, rs0Valid := s.rs1Valid } = .next t →
    t.faulted = false →
    exec (.resample .auxiliary) s =
      .next { s with rs1 := t.rs0, rs1Valid := true, tlen := t.tlen, tlenValid := true }) ∧
  ∀ (s t : State) (ch : Channel) (b : Bool), exec (.resample ch) s = .next t →
    exec (.resample ch) { s with auxPresent := b } = .next { t with auxPresent := b }

/-- 10_state.md R45, 60_exceptions.md R209 for `RESAMPLE`: when the checks pass and an element the algorithm would read
is unwritten, it stops with `Uninit` at such an element. -/
def Obligations.ResampleOfUnwrittenSourceStops : Prop :=
  ∀ (s : State) (ch : Channel), s.faulted = false → checkResample ch s = none →
    (∃ j ∈ resampleIndices s, (srcMem ch s).read j = none) →
    ∃ j ∈ resampleIndices s, (srcMem ch s).read j = none ∧
      exec (.resample ch) s = .fault (.uninit (srcSpace ch) j)

/-- 70_reset_and_hazards.md R244: source elements at or beyond `SRCn_LEN` are never read, whatever they hold (in the
FAULTED state a command does nothing, log 12). -/
def Obligations.ResampleIgnoresElementsBeyondTheLength : Prop :=
  ∀ (s : State) (m : Mem 8),
    ((∀ j < s.src0Len.toNat, m.read j = s.src0.read j) → ∀ t, exec (.resample .primary) s = .next t →
      exec (.resample .primary) { s with src0 := m } = .next { t with src0 := m }) ∧
    ((∀ j < s.src1Len.toNat, m.read j = s.src1.read j) → ∀ t, exec (.resample .auxiliary) s = .next t →
      exec (.resample .auxiliary) { s with src1 := m } = .next { t with src1 := m })

/-! ## MIX and WIDEN -/

/-- R156: `mix2` is the floor of the mean, commutes, lies between its operands, with the rule's four examples. -/
def Obligations.Mix2IsTheFloorOfTheMean : Prop :=
  (∀ a b : Byte, (mix2 a b).toNat = (a.toNat + b.toNat) / 2 ∧ (mix2 a b).toNat = (a.toNat + b.toNat) >>> 1 ∧
    mix2 a b = mix2 b a ∧ min a.toNat b.toNat ≤ (mix2 a b).toNat ∧ (mix2 a b).toNat ≤ max a.toNat b.toNat) ∧
  mix2 255 255 = 255 ∧ mix2 255 0 = 127 ∧ mix2 1 0 = 0 ∧ mix2 0 0 = 0

/-- 43_mixer.md R155, R157, R158: `MIX` completes when the streams it reads are valid and written; element `i` is the
mean of the two streams when `AUX_PRESENT` = 1, else the primary sample, whatever `RS1` and `RS1_VALID` hold. -/
def Obligations.MixCombinesTheStreams : Prop :=
  ∀ s : State, s.faulted = false → s.rs0Valid = true → (s.auxPresent = true → s.rs1Valid = true) →
    (∀ i < s.tlen.toNat, ∃ a, s.rs0.read i = some a) →
    (s.auxPresent = true → ∀ i < s.tlen.toNat, ∃ b, s.rs1.read i = some b) →
    ∃ t, exec .mix s = .next t ∧ t = { s with mixb := t.mixb, mixValid := true } ∧
      (s.auxPresent = false → ∀ i < s.tlen.toNat, t.mixb.read i = s.rs0.read i) ∧
      (s.auxPresent = true → ∀ i < s.tlen.toNat, ∃ a b, s.rs0.read i = some a ∧ s.rs1.read i = some b ∧
        t.mixb.read i = some (mix2 a b)) ∧
      ∀ i, s.tlen.toNat ≤ i → t.mixb.read i = s.mixb.read i

/-- R198: `MIX` without a resampled stream it needs, and `WIDEN` without a mix, record `ERR_SEQUENCE` and write
nothing. -/
def Obligations.CommandsOutOfSequenceFault : Prop :=
  ∀ s : State, s.faulted = false →
    ((s.rs0Valid = false ∨ (s.auxPresent = true ∧ s.rs1Valid = false)) →
      exec .mix s = .next { s with faulted := true, errCode := 0x02, errInfo := 0x00000004 }) ∧
    (s.mixValid = false →
      exec .widen s = .next { s with faulted := true, errCode := 0x02, errInfo := 0x00000005 })

/-- R166: the sample is the byte in the high half of 16 bits, read as two's complement as the rule says; the frame holds
it in both lanes and is `s * 2^24 + s * 2^8`. -/
def Obligations.FrameHoldsTheSampleInBothLanes : Prop :=
  ∀ v : Byte,
    (s16 v).toNat = v.toNat * 256 ∧
    (v.toNat ≤ 0x7F → (s16 v).toInt = 256 * v.toNat) ∧
    (0x80 ≤ v.toNat → (s16 v).toInt = 256 * v.toNat - 65536) ∧
    (frame v).toNat = v.toNat * 2 ^ 24 + v.toNat * 2 ^ 8 ∧
    (frame v).extractLsb 31 16 = s16 v ∧ (frame v).extractLsb 15 0 = s16 v

/-- 44_widener.md R165, R168: `WIDEN` completes when the mix is valid and written; `OUT[i]` is the frame of `MIXB[i]` for
the first `TLEN` elements, and nothing else changes. -/
def Obligations.WidenProducesTheFrames : Prop :=
  ∀ s : State, s.faulted = false → s.mixValid = true →
    (∀ i < s.tlen.toNat, ∃ v, s.mixb.read i = some v) →
    ∃ t, exec .widen s = .next t ∧ t = { s with out := t.out, outValid := true } ∧
      (∀ i < s.tlen.toNat, ∃ v, s.mixb.read i = some v ∧ t.out.read i = some (frame v)) ∧
      ∀ i, s.tlen.toNat ≤ i → t.out.read i = s.out.read i

/-! ## All commands -/

/-- A command issued again right away changes nothing more: no command reads what it writes (20_memory.md R71,
40_palette.md R113, 44_widener.md R168). The premise is the model's representation of memory (log 9); that a command does
nothing in a state FAULTED before it or by it is 60_exceptions.md R206 with log 12. -/
def Obligations.RepeatedCommandChangesNothing : Prop :=
  ∀ (i : Instr) (s t : State), s.memoryWf → exec i s = .next t → exec i t = .next t

/-- 10_state.md R22: no command reads `VIS_LEFT`. In the FAULTED state a command does nothing (log 12). -/
def Obligations.NoCommandReadsVisLeft : Prop :=
  ∀ (i : Instr) (s : State) (v : Word),
    (∀ t, exec i s = .next t → exec i { s with visLeft := v } = .next { t with visLeft := v }) ∧
    ∀ f, exec i s = .fault f → exec i { s with visLeft := v } = .fault f

/-- 70_reset_and_hazards.md R240: video and audio share no state inside the block, so a video command and an audio
command that both complete without a fault give the same state in either order. -/
def Obligations.VideoAndAudioCommandsCommute : Prop :=
  ∀ (v a : Instr), (v = .palbuild ∨ v = .blit) → (a = .mix ∨ a = .widen ∨ ∃ ch, a = .resample ch) →
    ∀ s s1 s2 : State,
      (exec v s = .next s1 → exec a s1 = .next s2 → s2.faulted = false →
        ∃ s3, exec a s = .next s3 ∧ exec v s3 = .next s2) ∧
      (exec a s = .next s1 → exec v s1 = .next s2 → s2.faulted = false →
        ∃ s3, exec v s = .next s3 ∧ exec a s3 = .next s2)

/-! ## Host transactions -/

/-- R176: reading a defined register returns its value and changes nothing, FAULTED or not; `CMD` reads 0, `STATUS` is
laid out bit by bit, `AUX_PRESENT` is its bit with zeros above. -/
def Obligations.RegisterReadReturnsTheRegister : Prop :=
  (∀ (s : State) (rest : List Transaction) (r : Reg), s.pending = .rd r.number :: rest →
    step s = .next { s with pending := rest, reply := some (regRead s r) }) ∧
  ∀ s : State, regRead s .cmd = 0 ∧
    (regRead s .status).extractLsb 31 16 = 0 ∧ (regRead s .status).extractLsb 15 8 = s.errCode ∧
    (regRead s .status).getLsbD 7 = s.faulted ∧ (regRead s .status).getLsbD 6 = s.outValid ∧
    (regRead s .status).getLsbD 5 = s.mixValid ∧ (regRead s .status).getLsbD 4 = s.rs1Valid ∧
    (regRead s .status).getLsbD 3 = s.rs0Valid ∧ (regRead s .status).getLsbD 2 = s.tlenValid ∧
    (regRead s .status).getLsbD 1 = s.videoValid ∧ (regRead s .status).getLsbD 0 = s.lutValid ∧
    regRead s .errinfo = s.errInfo ∧ regRead s .dispTop = s.dispTop ∧ regRead s .visTop = s.visTop ∧
    regRead s .visLeft = s.visLeft ∧ regRead s .visW = s.visW ∧ regRead s .visH = s.visH ∧
    regRead s .videoW = s.videoW ∧ regRead s .videoH = s.videoH ∧ regRead s .outRate = s.outRate ∧
    regRead s .chipFreq = s.chipFreq ∧ regRead s .scanlines = s.scanlines ∧ regRead s .src0Len = s.src0Len ∧
    regRead s .src1Len = s.src1Len ∧ regRead s .auxPresent = (if s.auxPresent then 1 else 0) ∧
    regRead s .tlen = s.tlen ∧ regRead s .cfgFbWidth = BitVec.ofNat 32 s.cfg.fbWidth ∧
    regRead s .cfgFbStride = BitVec.ofNat 32 s.cfg.fbStride ∧
    regRead s .cfgFbHeight = BitVec.ofNat 32 s.cfg.fbHeight ∧
    regRead s .cfgSurfSize = BitVec.ofNat 32 s.cfg.surfSize ∧
    regRead s .cfgMaxSrc = BitVec.ofNat 32 s.cfg.maxSrc ∧ regRead s .cfgTlenMax = BitVec.ofNat 32 s.cfg.tlenMax

/-- 10_state.md R29, R20: the `CFG` registers read as the parameters, and no step changes a parameter. -/
def Obligations.CfgRegistersReadTheConstantParameters : Prop :=
  (∀ s : State, (regRead s .cfgFbWidth).toNat = s.cfg.fbWidth ∧ (regRead s .cfgFbStride).toNat = s.cfg.fbStride ∧
    (regRead s .cfgFbHeight).toNat = s.cfg.fbHeight ∧ (regRead s .cfgSurfSize).toNat = s.cfg.surfSize ∧
    (regRead s .cfgMaxSrc).toNat = s.cfg.maxSrc ∧ (regRead s .cfgTlenMax).toNat = s.cfg.tlenMax) ∧
  ∀ s t : State, step s = .next t → t.cfg = s.cfg

/-- R177: a write to an RW register while not FAULTED stores the value (for `AUX_PRESENT`, bit 0) and changes nothing
else. -/
def Obligations.RegisterWriteStoresOnlyItsRegister : Prop :=
  ∀ (s : State) (rest : List Transaction) (r : Reg) (v : Word), s.faulted = false →
    s.pending = .wr r.number v :: rest →
    r ∈ [Reg.dispTop, .visTop, .visLeft, .visW, .visH, .outRate, .chipFreq, .scanlines, .src0Len, .src1Len,
      .auxPresent] →
    ∃ t, step s = .next t ∧ regRead t r = (if r = .auxPresent then v &&& 1 else v) ∧
      (∀ q, q ≠ r → regRead t q = regRead s q) ∧
      t.lut = s.lut ∧ t.surf = s.surf ∧ t.fb = s.fb ∧ t.src0 = s.src0 ∧ t.src1 = s.src1 ∧ t.rs0 = s.rs0 ∧
      t.rs1 = s.rs1 ∧ t.mixb = s.mixb ∧ t.out = s.out ∧ t.cfg = s.cfg ∧ t.pending = rest ∧ t.reply = none ∧
      t.epoch = s.epoch

/-- 45_host_access.md R178: a write to an RO register while not FAULTED stores nothing and records `ERR_ACCESS` with the
register number. -/
def Obligations.ReadOnlyRegisterWriteFaults : Prop :=
  ∀ (s : State) (rest : List Transaction) (r : Reg) (v : Word), s.faulted = false →
    s.pending = .wr r.number v :: rest →
    r ∈ [Reg.status, .errinfo, .videoW, .videoH, .tlen, .cfgFbWidth, .cfgFbStride, .cfgFbHeight, .cfgSurfSize,
      .cfgMaxSrc, .cfgTlenMax] →
    step s = .next { s with pending := rest, reply := none, faulted := true, errCode := 0x0C, errInfo := r.number }

/-- R32, R179: a read or write of an undefined register number while not FAULTED records `ERR_ADDR` with the number; the
read returns 0, the write stores nothing. -/
def Obligations.UndefinedRegisterFaults : Prop :=
  ∀ (s : State) (rest : List Transaction) (n v : Word), s.faulted = false →
    (n.toNat = 0x03 ∨ (0x0B ≤ n.toNat ∧ n.toNat ≤ 0x0F) ∨ n.toNat = 0x17 ∨ 0x1E ≤ n.toNat) →
    (s.pending = .rd n :: rest → step s =
      .next { s with pending := rest, reply := some 0, faulted := true, errCode := 0x0B, errInfo := n }) ∧
    (s.pending = .wr n v :: rest → step s =
      .next { s with pending := rest, reply := none, faulted := true, errCode := 0x0B, errInfo := n })

/-- R181, R184, R185, R186, R187: which memory transactions fault while not FAULTED, in the order of the checks, each
with its code and with `ERRINFO` = the index; a faulting read returns 0, a faulting write stores nothing. -/
def Obligations.MemoryTransactionChecksInOrder : Prop :=
  ∀ (s : State) (rest : List Transaction) (sp : Nat) (i v : Word), s.faulted = false →
    (s.pending = .wm sp i v :: rest →
      (10 ≤ sp → step s =
        .next { s with pending := rest, reply := none, faulted := true, errCode := 0x0B, errInfo := i }) ∧
      (sp ∈ [0, 1, 6, 7, 8, 9] → step s =
        .next { s with pending := rest, reply := none, faulted := true, errCode := 0x0C, errInfo := i }) ∧
      (sp ∈ [4, 5] → s.cfg.maxSrc ≤ i.toNat → step s =
        .next { s with pending := rest, reply := none, faulted := true, errCode := 0x09, errInfo := i }) ∧
      (sp = 2 → s.cfg.surfSize ≤ i.toNat → step s =
        .next { s with pending := rest, reply := none, faulted := true, errCode := 0x0B, errInfo := i }) ∧
      (sp = 3 → s.cfg.fbStride * s.cfg.fbHeight ≤ i.toNat → step s =
        .next { s with pending := rest, reply := none, faulted := true, errCode := 0x0B, errInfo := i })) ∧
    (s.pending = .rm sp i :: rest →
      (10 ≤ sp ∨ (sp ∈ [0, 1] ∧ 256 ≤ i.toNat) ∨ (sp = 2 ∧ s.cfg.surfSize ≤ i.toNat) ∨
        (sp = 3 ∧ s.cfg.fbStride * s.cfg.fbHeight ≤ i.toNat) ∨ (sp ∈ [4, 5] ∧ s.cfg.maxSrc ≤ i.toNat) ∨
        (sp ∈ [6, 7, 8, 9] ∧ s.cfg.tlenMax ≤ i.toNat)) →
      step s = .next { s with pending := rest, reply := some 0, faulted := true, errCode := 0x0B, errInfo := i })

/-- R182: a memory read inside its space returns the element with zeros above and changes nothing, in every state,
FAULTED included; for an unwritten element it returns some value, about which nothing is said. -/
def Obligations.MemoryReadReturnsTheElement : Prop :=
  ∀ (s : State) (rest : List Transaction) (i : Word),
    (∀ (h : i.toNat < 256) (c : Rgb), s.cfg.palRgb[i.toNat] = c → s.pending = .rm 0 i :: rest →
      step s = .next { s with pending := rest, reply := some ((c.r ++ c.g ++ c.b).zeroExtend 32) }) ∧
    (∀ e, i.toNat < 256 → s.lut.read i.toNat = some e → s.pending = .rm 1 i :: rest →
      step s = .next { s with pending := rest, reply := some (e.zeroExtend 32) }) ∧
    (∀ e, i.toNat < s.cfg.surfSize → s.surf.read i.toNat = some e → s.pending = .rm 2 i :: rest →
      step s = .next { s with pending := rest, reply := some (e.zeroExtend 32) }) ∧
    (∀ e, i.toNat < s.cfg.fbStride * s.cfg.fbHeight → s.fb.read i.toNat = some e → s.pending = .rm 3 i :: rest →
      step s = .next { s with pending := rest, reply := some (e.zeroExtend 32) }) ∧
    (∀ e, i.toNat < s.cfg.maxSrc → s.src0.read i.toNat = some e → s.pending = .rm 4 i :: rest →
      step s = .next { s with pending := rest, reply := some (e.zeroExtend 32) }) ∧
    (∀ e, i.toNat < s.cfg.maxSrc → s.src1.read i.toNat = some e → s.pending = .rm 5 i :: rest →
      step s = .next { s with pending := rest, reply := some (e.zeroExtend 32) }) ∧
    (∀ e, i.toNat < s.cfg.tlenMax → s.rs0.read i.toNat = some e → s.pending = .rm 6 i :: rest →
      step s = .next { s with pending := rest, reply := some (e.zeroExtend 32) }) ∧
    (∀ e, i.toNat < s.cfg.tlenMax → s.rs1.read i.toNat = some e → s.pending = .rm 7 i :: rest →
      step s = .next { s with pending := rest, reply := some (e.zeroExtend 32) }) ∧
    (∀ e, i.toNat < s.cfg.tlenMax → s.mixb.read i.toNat = some e → s.pending = .rm 8 i :: rest →
      step s = .next { s with pending := rest, reply := some (e.zeroExtend 32) }) ∧
    (∀ e, i.toNat < s.cfg.tlenMax → s.out.read i.toNat = some e → s.pending = .rm 9 i :: rest →
      step s = .next { s with pending := rest, reply := some e }) ∧
    ∀ space : Space, i.toNat < spaceSize s.cfg space → s.pending = .rm space.id i :: rest →
      ∃ v, step s = .next { s with pending := rest, reply := some v }

/-- R183: a memory write inside a writable space while not FAULTED stores the low bits of the value, as wide as the
space's element, and changes nothing else. -/
def Obligations.MemoryWriteStoresOneElement : Prop :=
  ∀ (s : State) (rest : List Transaction) (i v : Word), s.faulted = false →
    (s.pending = .wm 2 i v :: rest → i.toNat < s.cfg.surfSize → ∃ t, step s = .next t ∧
      t = { s with pending := rest, reply := none, surf := t.surf } ∧
      t.surf.read i.toNat = some (v.extractLsb 7 0) ∧ ∀ k, k ≠ i.toNat → t.surf.read k = s.surf.read k) ∧
    (s.pending = .wm 3 i v :: rest → i.toNat < s.cfg.fbStride * s.cfg.fbHeight → ∃ t, step s = .next t ∧
      t = { s with pending := rest, reply := none, fb := t.fb } ∧
      t.fb.read i.toNat = some (v.extractLsb 15 0) ∧ ∀ k, k ≠ i.toNat → t.fb.read k = s.fb.read k) ∧
    (s.pending = .wm 4 i v :: rest → i.toNat < s.cfg.maxSrc → ∃ t, step s = .next t ∧
      t = { s with pending := rest, reply := none, src0 := t.src0 } ∧
      t.src0.read i.toNat = some (v.extractLsb 7 0) ∧ ∀ k, k ≠ i.toNat → t.src0.read k = s.src0.read k) ∧
    (s.pending = .wm 5 i v :: rest → i.toNat < s.cfg.maxSrc → ∃ t, step s = .next t ∧
      t = { s with pending := rest, reply := none, src1 := t.src1 } ∧
      t.src1.read i.toNat = some (v.extractLsb 7 0) ∧ ∀ k, k ≠ i.toNat → t.src1.read k = s.src1.read k)

/-- 20_memory.md R68: a read sees the latest write. A memory write followed by a read of the same element returns the
stored bits; an access of the host is seen by the very next transaction. -/
def Obligations.ReadAfterWriteReturnsTheStoredBits : Prop :=
  ∀ (s : State) (rest : List Transaction) (space : Space) (i v : Word), s.faulted = false →
    hostWritable space = true → i.toNat < spaceSize s.cfg space →
    s.pending = .wm space.id i v :: .rm space.id i :: rest →
    ∃ t u, step s = .next t ∧ step t = .next u ∧
      u.reply = some (if space = .fb then v &&& 0xFFFF else v &&& 0xFF) ∧ u.pending = rest

/-- 20_memory.md R65: no read has a side effect. A read repeated at once returns the same value and changes nothing, the
read of an unwritten element too (there the model's choice, log 7), and a read that faulted. -/
def Obligations.ReadsMayBeRepeated : Prop :=
  ∀ (s t : State) (x : Transaction) (rest : List Transaction), ((∃ n, x = .rd n) ∨ ∃ sp i, x = .rm sp i) →
    s.pending = x :: rest → step s = .next t → step { t with pending := x :: rest } = .next t

/-- 30_encoding.md R100: `SETRECT` on a block that is not FAULTED leaves the five registers at its arguments and changes
nothing else. -/
def Obligations.SetRectWritesTheRectangle : Prop :=
  ∀ (s : State) (rest : List Transaction) (dtop top left w h : Word), s.faulted = false →
    s.pending = setRect dtop top left w h ++ rest →
    Host.Core.run Sys2Proof.core 5 s =
      .next { s with dispTop := dtop, visTop := top, visLeft := left, visW := w, visH := h, pending := rest,
                     reply := none }

/-- 30_encoding.md R100: `LOADAT SURF, k, [v0, v1, ...]` inside the surface, on a block that is not FAULTED, stores the
low 8 bits of each value at `k`, `k + 1`, ... and changes nothing else. -/
def Obligations.LoadAtFillsTheSurface : Prop :=
  ∀ (vs : List Word) (s : State) (rest : List Transaction) (k : Word), s.faulted = false →
    k.toNat + vs.length ≤ s.cfg.surfSize → s.pending = loadAt .surf k vs ++ rest →
    ∃ t, Host.Core.run Sys2Proof.core vs.length s = .next t ∧
      t = { s with surf := t.surf, pending := rest, reply := t.reply } ∧
      (∀ (j : Nat) (h : j < vs.length), t.surf.read (k.toNat + j) = some (vs[j].extractLsb 7 0)) ∧
      ∀ a, (a < k.toNat ∨ k.toNat + vs.length ≤ a) → t.surf.read a = s.surf.read a

/-! ## Faults and reset -/

/-- R204, with the three assignments of R203: the transaction that raises the first fault performs the three assignments of fault entry, with the
`ERRINFO` of its kind, and nothing else. -/
def Obligations.FaultEntryChangesOnlyTheRecord : Prop :=
  ∀ s t : State, s.faulted = false → step s = .next t → t.faulted = true →
    ∃ (x : Transaction) (rest : List Transaction) (c : ErrCode), s.pending = x :: rest ∧
      t = { s with pending := rest, reply := t.reply, faulted := true, errCode := c.code, errInfo := faultInfo x }

/-- R206: while FAULTED writes have no effect at all, reads answer (0 where they would fault) and change nothing, and
`RESET` leaves the state. -/
def Obligations.FaultedBlockIsFrozenUntilReset : Prop :=
  ∀ (s : State) (rest : List Transaction), s.faulted = true →
    (∀ n v, s.pending = .wr n v :: rest → step s = .next { s with pending := rest, reply := none }) ∧
    (∀ sp i v, s.pending = .wm sp i v :: rest → step s = .next { s with pending := rest, reply := none }) ∧
    (∀ r : Reg, s.pending = .rd r.number :: rest →
      step s = .next { s with pending := rest, reply := some (regRead s r) }) ∧
    (∀ (space : Space) (i : Word), i.toNat < spaceSize s.cfg space → s.pending = .rm space.id i :: rest →
      ∃ v, step s = .next { s with pending := rest, reply := some v } ∧
        ∀ e, spaceRead s space i.toNat = some e → v = e) ∧
    (∀ n, Reg.ofNumber n = none → s.pending = .rd n :: rest →
      step s = .next { s with pending := rest, reply := some 0 }) ∧
    (∀ (sp : Nat) (i : Word), (10 ≤ sp ∨ ∃ space, Space.ofId sp = some space ∧ spaceSize s.cfg space ≤ i.toNat) →
      s.pending = .rm sp i :: rest → step s = .next { s with pending := rest, reply := some 0 }) ∧
    (s.pending = .reset :: rest →
      step s = .next { State.resetOf s.cfg with pending := rest, epoch := s.epoch + 1 })

/-- R46, R230: `RESET` sets every register to its reset value and every element of the nine writable spaces to
unwritten, and keeps the parameters, the `CFG` read-back and `PALROM`; it has the effect of power-on (but for the
transactions still to come and the model's own counter of resets, log 5), and the state after power-on is as R46 lists. -/
def Obligations.ResetRestoresEveryPieceOfState : Prop :=
  (∀ (s : State) (rest : List Transaction), s.pending = .reset :: rest → ∃ t, step s = .next t ∧
    (∀ r ∈ [Reg.cfgFbWidth, .cfgFbStride, .cfgFbHeight, .cfgSurfSize, .cfgMaxSrc, .cfgTlenMax],
      regRead t r = regRead s r) ∧
    (∀ r ∈ [Reg.cmd, .status, .errinfo, .dispTop, .visTop, .visLeft, .visW, .visH, .videoW, .videoH, .outRate,
      .chipFreq, .scanlines, .src0Len, .src1Len, .auxPresent, .tlen], regRead t r = 0) ∧
    (∀ i, spaceRead t .palrom i = spaceRead s .palrom i) ∧
    (∀ space, space ≠ .palrom → ∀ i, spaceRead t space i = none) ∧ t.cfg = s.cfg ∧
    t = { State.resetOf s.cfg with pending := rest, epoch := t.epoch }) ∧
  (∀ r ∈ [Reg.cmd, .status, .errinfo, .dispTop, .visTop, .visLeft, .visW, .visH, .videoW, .videoH, .outRate,
    .chipFreq, .scanlines, .src0Len, .src1Len, .auxPresent, .tlen], regRead State.reset r = 0) ∧
  (regRead State.reset .cfgFbWidth).toNat = Config.params.fbWidth ∧
  (regRead State.reset .cfgFbStride).toNat = Config.params.fbStride ∧
  (regRead State.reset .cfgFbHeight).toNat = Config.params.fbHeight ∧
  (regRead State.reset .cfgSurfSize).toNat = Config.params.surfSize ∧
  (regRead State.reset .cfgMaxSrc).toNat = Config.params.maxSrc ∧
  (regRead State.reset .cfgTlenMax).toNat = Config.params.tlenMax ∧
  (∀ (i : Nat) (h : i < 256), spaceRead State.reset .palrom i =
    some ((Config.params.palRgb[i].r ++ Config.params.palRgb[i].g ++ Config.params.palRgb[i].b).zeroExtend 32)) ∧
  ∀ space, space ≠ .palrom → ∀ i, spaceRead State.reset space i = none

/-- 45_host_access.md R188: no transaction but `RESET` clears a valid flag, the fault record or the `TLEN` latch. -/
def Obligations.OnlyResetClearsFlagsRecordAndLatch : Prop :=
  ∀ s t : State, step s = .next t → (∀ rest, s.pending ≠ .reset :: rest) →
    (s.lutValid = true → t.lutValid = true) ∧ (s.videoValid = true → t.videoValid = true) ∧
    (s.rs0Valid = true → t.rs0Valid = true) ∧ (s.rs1Valid = true → t.rs1Valid = true) ∧
    (s.mixValid = true → t.mixValid = true) ∧ (s.outValid = true → t.outValid = true) ∧
    (s.tlenValid = true → t.tlenValid = true ∧ t.tlen = s.tlen) ∧
    (s.faulted = true → t.faulted = true ∧ t.errCode = s.errCode ∧ t.errInfo = s.errInfo)

/-- 10_state.md R30: a valid flag goes from 0 to 1 only in the step that issues the command R25 names for it. -/
def Obligations.ValidFlagsAreSetOnlyByTheirCommand : Prop :=
  ∀ s t : State, step s = .next t →
    (s.lutValid = false → t.lutValid = true → ∃ rest, s.pending = .wr 0x00 (encode .palbuild) :: rest) ∧
    (s.videoValid = false → t.videoValid = true → ∃ rest, s.pending = .wr 0x00 (encode .blit) :: rest) ∧
    (s.tlenValid = false → t.tlenValid = true →
      ∃ ch rest, s.pending = .wr 0x00 (encode (.resample ch)) :: rest) ∧
    (s.rs0Valid = false → t.rs0Valid = true →
      ∃ rest, s.pending = .wr 0x00 (encode (.resample .primary)) :: rest) ∧
    (s.rs1Valid = false → t.rs1Valid = true →
      ∃ rest, s.pending = .wr 0x00 (encode (.resample .auxiliary)) :: rest) ∧
    (s.mixValid = false → t.mixValid = true → ∃ rest, s.pending = .wr 0x00 (encode .mix) :: rest) ∧
    (s.outValid = false → t.outValid = true → ∃ rest, s.pending = .wr 0x00 (encode .widen) :: rest)

/-! ## Invariants -/

/-- Every step keeps the canonical form of the memory, so that equal contents are equal data. The form is the model's
choice (log 9, DESIGN CHOICE): each space is a list of written elements with strictly rising indices. The spec asks for
an optional value per element (10_state.md R45) and no list. -/
def Obligations.StepKeepsMemoryCanonical : Prop :=
  ∀ s t : State, s.memoryWf → step s = .next t → t.memoryWf

/-- Every step keeps the invariant of the block: no buffer is overrun (20_memory.md R64), a set valid flag means its
buffer is written (10_state.md R25, R30), the LUT is the converted palette from `PALBUILD` on (40_palette.md R114), the
latched length fits (10_state.md R28), the record is 0 while there is no fault (10_state.md R26). Its clause `canonical`
is about the model's representation of memory (log 9, DESIGN CHOICE). -/
def Obligations.StepKeepsBlockInvariant : Prop :=
  ∀ s t : State, s.Invariant → step s = .next t → t.Invariant

/-- The state after reset has the invariant, with any parameters (the clause `canonical` is the model's, log 9). -/
def Obligations.ResetHasBlockInvariant : Prop :=
  State.reset.Invariant ∧ ∀ P : Params, (State.resetOf P).Invariant

/-- 10_state.md R45: the valid flags guarantee that no command reads an unwritten element of `LUT`, `RS0`, `RS1` or
`MIXB`. In a state with the invariant a step stops only at an unwritten element of a space the host fills, inside that
space. -/
def Obligations.OnlyHostSpacesAreFoundUnwritten : Prop :=
  ∀ (s : State) (f : Fault), s.Invariant → step s = .fault f →
    ∃ (space : Space) (i : Nat), f = .uninit space i ∧ (space = .surf ∨ space = .src0 ∨ space = .src1) ∧
      i < spaceSize s.cfg space ∧ spaceRead s space i = none
end

