-- ==== Sys2Proof/Laws/Memory.lean ====
section
/-! SUPPORT. The laws of one memory space: a read after a write, what a run of writes leaves, and that every memory
operation keeps the canonical form. -/

namespace Sys2Proof.Machine

variable {width : Nat}

@[simp] theorem Mem.read_nil (i : Nat) : Mem.read ([] : Mem width) i = none := rfl

theorem Mem.read_cons (j : Nat) (v : BitVec width) (m : Mem width) (i : Nat) :
    Mem.read ((j, v) :: m) i = if j = i then some v else Mem.read m i := rfl

/-- A read after a write: the written element reads the value, every other element reads as before. -/
theorem Mem.read_write (m : Mem width) (i k : Nat) (v : BitVec width) :
    (m.write i v).read k = if k = i then some v else m.read k := by
  induction m with
  | nil => simp [Mem.write, Mem.read_cons, eq_comm]
  | cons e m ih =>
    obtain ⟨j, u⟩ := e
    simp only [Mem.write]
    rcases Nat.lt_trichotomy i j with hlt | rfl | hgt
    · rw [if_pos hlt, Mem.read_cons]
      by_cases hk : i = k
      · rw [if_pos hk, if_pos hk.symm]
      · rw [if_neg hk, if_neg (Ne.symm hk)]
    · rw [if_neg (lt_irrefl i), if_pos rfl, Mem.read_cons, Mem.read_cons]
      by_cases hk : i = k
      · rw [if_pos hk, if_pos hk.symm]
      · rw [if_neg hk, if_neg (Ne.symm hk), if_neg hk]
    · rw [if_neg (by omega), if_neg (by omega), Mem.read_cons, Mem.read_cons, ih]
      by_cases hj : j = k
      · rw [if_pos hj, if_pos hj, if_neg (by omega)]
      · rw [if_neg hj, if_neg hj]

@[simp] theorem Mem.read_write_self (m : Mem width) (i : Nat) (v : BitVec width) :
    (m.write i v).read i = some v := by simp [Mem.read_write]

theorem Mem.read_write_of_ne (m : Mem width) (i k : Nat) (v : BitVec width) (h : k ≠ i) :
    (m.write i v).read k = m.read k := by simp [Mem.read_write, h]

@[simp] theorem Mem.writeRun_nil (m : Mem width) (base : Nat) : m.writeRun base [] = m := rfl

theorem Mem.writeRun_cons (m : Mem width) (base : Nat) (v : BitVec width) (vs : List (BitVec width)) :
    m.writeRun base (v :: vs) = (m.writeRun (base + 1) vs).write base v := rfl

/-- What a run of writes leaves: the run's elements read its values, all others read as before. -/
theorem Mem.read_writeRun (m : Mem width) (base : Nat) (vs : List (BitVec width)) (k : Nat) :
    (m.writeRun base vs).read k = if base ≤ k ∧ k < base + vs.length then vs[k - base]? else m.read k := by
  induction vs generalizing base with
  | nil =>
    rw [Mem.writeRun_nil, if_neg]
    simp only [List.length_nil]; omega
  | cons v vs ih =>
    rw [Mem.writeRun_cons, Mem.read_write, ih]
    simp only [List.length_cons]
    by_cases hk : k = base
    · subst hk; simp
    · rw [if_neg hk]
      by_cases hin : base + 1 ≤ k ∧ k < base + 1 + vs.length
      · rw [if_pos hin, if_pos (by omega)]
        obtain ⟨d, rfl⟩ : ∃ d, k = base + 1 + d := ⟨k - (base + 1), by omega⟩
        rw [show base + 1 + d - (base + 1) = d by omega, show base + 1 + d - base = d + 1 by omega,
          List.getElem?_cons_succ]
      · rw [if_neg hin, if_neg (by omega)]

/-- An element of a run reads its value. -/
theorem Mem.read_writeRun_mem (m : Mem width) (base : Nat) (vs : List (BitVec width)) (d : Nat) (h : d < vs.length) :
    (m.writeRun base vs).read (base + d) = vs[d]? := by
  rw [Mem.read_writeRun, if_pos (by omega), show base + d - base = d by omega]

/-- An element outside a run reads as before. -/
theorem Mem.read_writeRun_of_not_mem (m : Mem width) (base : Nat) (vs : List (BitVec width)) (k : Nat)
    (h : k < base ∨ base + vs.length ≤ k) : (m.writeRun base vs).read k = m.read k := by
  rw [Mem.read_writeRun, if_neg (by omega)]

/-- The indices a write leaves: the old ones and the written one. -/
theorem Mem.mem_write (m : Mem width) (i : Nat) (v : BitVec width) (e : Nat × BitVec width) (h : e ∈ m.write i v) :
    e = (i, v) ∨ e ∈ m := by
  induction m with
  | nil => simpa [Mem.write] using h
  | cons a m ih =>
    obtain ⟨j, u⟩ := a
    simp only [Mem.write] at h
    split at h
    · simpa using h
    · split at h
      · rcases List.mem_cons.1 h with h | h
        · exact .inl h
        · exact .inr (List.mem_cons_of_mem _ h)
      · rcases List.mem_cons.1 h with h | h
        · exact .inr (h ▸ List.mem_cons_self)
        · rcases ih h with h | h
          · exact .inl h
          · exact .inr (List.mem_cons_of_mem _ h)

/-- A write keeps the canonical form. -/
theorem Mem.wf_write (m : Mem width) (i : Nat) (v : BitVec width) (h : m.wf) : (m.write i v).wf := by
  induction m with
  | nil => simp [Mem.write, Mem.wf]
  | cons a m ih =>
    obtain ⟨j, u⟩ := a
    obtain ⟨hj, hm⟩ := List.pairwise_cons.1 h
    simp only [Mem.write]
    split
    · refine List.pairwise_cons.2 ⟨?_, h⟩
      intro e he
      rcases List.mem_cons.1 he with rfl | he
      · assumption
      · exact lt_trans ‹i < j› (hj e he)
    · split
      · subst ‹i = j›; exact List.pairwise_cons.2 ⟨hj, hm⟩
      · refine List.pairwise_cons.2 ⟨?_, ih hm⟩
        intro e he
        rcases Mem.mem_write m i v e he with rfl | he
        · show j < i; omega
        · exact hj e he

/-- A run of writes keeps the canonical form. -/
theorem Mem.wf_writeRun (m : Mem width) (base : Nat) (vs : List (BitVec width)) (h : m.wf) :
    (m.writeRun base vs).wf := by
  induction vs generalizing base with
  | nil => exact h
  | cons v vs ih => exact Mem.wf_write _ _ _ (ih (base + 1))

/-- A write below the size keeps every element below it. -/
theorem Mem.below_write (m : Mem width) (i : Nat) (v : BitVec width) (n : Nat) (h : m.below n) (hi : i < n) :
    (m.write i v).below n := by
  intro e he
  rcases Mem.mem_write m i v e he with rfl | he
  · exact hi
  · exact h e he

/-- A run of writes below the size keeps every element below it. -/
theorem Mem.below_writeRun (m : Mem width) (base : Nat) (vs : List (BitVec width)) (n : Nat) (h : m.below n)
    (hn : base + vs.length ≤ n) : (m.writeRun base vs).below n := by
  induction vs generalizing base with
  | nil => exact h
  | cons v vs ih =>
    simp only [List.length_cons] at hn
    exact Mem.below_write _ _ _ _ (ih (base + 1) (by omega)) (by omega)

/-- More room never hurts. -/
theorem Mem.below_mono (m : Mem width) (n k : Nat) (h : m.below n) (hk : n ≤ k) : m.below k :=
  fun e he => lt_of_lt_of_le (h e he) hk

/-- An element that reads as written is listed. -/
theorem Mem.mem_of_read (m : Mem width) (i : Nat) (v : BitVec width) (h : m.read i = some v) : (i, v) ∈ m := by
  induction m with
  | nil => simp at h
  | cons a m ih =>
    obtain ⟨j, u⟩ := a
    rw [Mem.read_cons] at h
    split at h
    · simp_all
    · exact List.mem_cons_of_mem _ (ih h)

/-- Beyond the size nothing is written. -/
theorem Mem.read_of_below (m : Mem width) (n i : Nat) (h : m.below n) (hi : n ≤ i) : m.read i = none := by
  cases hr : m.read i with
  | none => rfl
  | some v => exact absurd (h _ (Mem.mem_of_read m i v hr)) (by simpa using hi)

/-- In canonical form an index below the first one is unwritten. -/
theorem Mem.read_of_lt_all (m : Mem width) (i : Nat) (h : ∀ e ∈ m, i < e.1) : m.read i = none := by
  cases hr : m.read i with
  | none => rfl
  | some v => exact absurd (h _ (Mem.mem_of_read m i v hr)) (by simp)

/-- Equal contents in canonical form are equal lists. -/
theorem Mem.ext_of_wf (m n : Mem width) (hm : m.wf) (hn : n.wf) (h : ∀ i, m.read i = n.read i) : m = n := by
  induction m generalizing n with
  | nil =>
    cases n with
    | nil => rfl
    | cons b n => obtain ⟨j, v⟩ := b; simpa [Mem.read_cons] using h j
  | cons a m ih =>
    obtain ⟨i, u⟩ := a
    obtain ⟨hi, hm'⟩ := List.pairwise_cons.1 hm
    cases n with
    | nil => simpa [Mem.read_cons] using h i
    | cons b n =>
      obtain ⟨j, v⟩ := b
      obtain ⟨hj, hn'⟩ := List.pairwise_cons.1 hn
      have hij : i = j := by
        rcases Nat.lt_trichotomy i j with hlt | heq | hgt
        · have h1 := h i
          rw [Mem.read_cons, if_pos rfl, Mem.read_cons, if_neg (by omega),
            Mem.read_of_lt_all n i (fun e he => lt_trans hlt (hj e he))] at h1
          exact absurd h1 (by simp)
        · exact heq
        · have h1 := h j
          rw [Mem.read_cons, if_neg (by omega), Mem.read_cons, if_pos rfl,
            Mem.read_of_lt_all m j (fun e he => lt_trans hgt (hi e he))] at h1
          exact absurd h1 (by simp)
      subst hij
      have huv : u = v := by simpa [Mem.read_cons] using h i
      subst huv
      rw [ih n hm' hn' fun k => ?_]
      have hk := h k
      rw [Mem.read_cons, Mem.read_cons] at hk
      by_cases hik : i = k
      · subst hik
        rw [Mem.read_of_lt_all m i hi, Mem.read_of_lt_all n i hj]
      · simpa [hik] using hk

/-- Writing a run twice is writing it once. -/
theorem Mem.writeRun_twice (m : Mem width) (base : Nat) (vs : List (BitVec width)) (h : m.wf) :
    (m.writeRun base vs).writeRun base vs = m.writeRun base vs := by
  refine Mem.ext_of_wf _ _ (Mem.wf_writeRun _ _ _ (Mem.wf_writeRun _ _ _ h)) (Mem.wf_writeRun _ _ _ h) fun k => ?_
  rw [Mem.read_writeRun]
  split
  · rw [Mem.read_writeRun, if_pos ‹_›]
  · rfl

end Sys2Proof.Machine
end

