-- ==== Sys2Proof/Laws/State.lean ====
section
/-! SUPPORT. One lemma per field per named update of the state, each true by `rfl`, so that no proof unfolds a record
update. -/

namespace Sys2Proof.Machine

variable (s : State)

/-! ## `State.withFaultRecord` -/

@[simp] theorem State.withFaultRecord_cfg (c : Byte) (info : Word) : (s.withFaultRecord c info).cfg = s.cfg := rfl
@[simp] theorem State.withFaultRecord_dispTop (c : Byte) (info : Word) : (s.withFaultRecord c info).dispTop = s.dispTop := rfl
@[simp] theorem State.withFaultRecord_visTop (c : Byte) (info : Word) : (s.withFaultRecord c info).visTop = s.visTop := rfl
@[simp] theorem State.withFaultRecord_visLeft (c : Byte) (info : Word) : (s.withFaultRecord c info).visLeft = s.visLeft := rfl
@[simp] theorem State.withFaultRecord_visW (c : Byte) (info : Word) : (s.withFaultRecord c info).visW = s.visW := rfl
@[simp] theorem State.withFaultRecord_visH (c : Byte) (info : Word) : (s.withFaultRecord c info).visH = s.visH := rfl
@[simp] theorem State.withFaultRecord_videoW (c : Byte) (info : Word) : (s.withFaultRecord c info).videoW = s.videoW := rfl
@[simp] theorem State.withFaultRecord_videoH (c : Byte) (info : Word) : (s.withFaultRecord c info).videoH = s.videoH := rfl
@[simp] theorem State.withFaultRecord_outRate (c : Byte) (info : Word) : (s.withFaultRecord c info).outRate = s.outRate := rfl
@[simp] theorem State.withFaultRecord_chipFreq (c : Byte) (info : Word) : (s.withFaultRecord c info).chipFreq = s.chipFreq := rfl
@[simp] theorem State.withFaultRecord_scanlines (c : Byte) (info : Word) : (s.withFaultRecord c info).scanlines = s.scanlines := rfl
@[simp] theorem State.withFaultRecord_src0Len (c : Byte) (info : Word) : (s.withFaultRecord c info).src0Len = s.src0Len := rfl
@[simp] theorem State.withFaultRecord_src1Len (c : Byte) (info : Word) : (s.withFaultRecord c info).src1Len = s.src1Len := rfl
@[simp] theorem State.withFaultRecord_auxPresent (c : Byte) (info : Word) : (s.withFaultRecord c info).auxPresent = s.auxPresent := rfl
@[simp] theorem State.withFaultRecord_tlen (c : Byte) (info : Word) : (s.withFaultRecord c info).tlen = s.tlen := rfl
@[simp] theorem State.withFaultRecord_lutValid (c : Byte) (info : Word) : (s.withFaultRecord c info).lutValid = s.lutValid := rfl
@[simp] theorem State.withFaultRecord_videoValid (c : Byte) (info : Word) : (s.withFaultRecord c info).videoValid = s.videoValid := rfl
@[simp] theorem State.withFaultRecord_tlenValid (c : Byte) (info : Word) : (s.withFaultRecord c info).tlenValid = s.tlenValid := rfl
@[simp] theorem State.withFaultRecord_rs0Valid (c : Byte) (info : Word) : (s.withFaultRecord c info).rs0Valid = s.rs0Valid := rfl
@[simp] theorem State.withFaultRecord_rs1Valid (c : Byte) (info : Word) : (s.withFaultRecord c info).rs1Valid = s.rs1Valid := rfl
@[simp] theorem State.withFaultRecord_mixValid (c : Byte) (info : Word) : (s.withFaultRecord c info).mixValid = s.mixValid := rfl
@[simp] theorem State.withFaultRecord_outValid (c : Byte) (info : Word) : (s.withFaultRecord c info).outValid = s.outValid := rfl
@[simp] theorem State.withFaultRecord_faulted (c : Byte) (info : Word) : (s.withFaultRecord c info).faulted = true := rfl
@[simp] theorem State.withFaultRecord_errCode (c : Byte) (info : Word) : (s.withFaultRecord c info).errCode = c := rfl
@[simp] theorem State.withFaultRecord_errInfo (c : Byte) (info : Word) : (s.withFaultRecord c info).errInfo = info := rfl
@[simp] theorem State.withFaultRecord_lut (c : Byte) (info : Word) : (s.withFaultRecord c info).lut = s.lut := rfl
@[simp] theorem State.withFaultRecord_surf (c : Byte) (info : Word) : (s.withFaultRecord c info).surf = s.surf := rfl
@[simp] theorem State.withFaultRecord_fb (c : Byte) (info : Word) : (s.withFaultRecord c info).fb = s.fb := rfl
@[simp] theorem State.withFaultRecord_src0 (c : Byte) (info : Word) : (s.withFaultRecord c info).src0 = s.src0 := rfl
@[simp] theorem State.withFaultRecord_src1 (c : Byte) (info : Word) : (s.withFaultRecord c info).src1 = s.src1 := rfl
@[simp] theorem State.withFaultRecord_rs0 (c : Byte) (info : Word) : (s.withFaultRecord c info).rs0 = s.rs0 := rfl
@[simp] theorem State.withFaultRecord_rs1 (c : Byte) (info : Word) : (s.withFaultRecord c info).rs1 = s.rs1 := rfl
@[simp] theorem State.withFaultRecord_mixb (c : Byte) (info : Word) : (s.withFaultRecord c info).mixb = s.mixb := rfl
@[simp] theorem State.withFaultRecord_out (c : Byte) (info : Word) : (s.withFaultRecord c info).out = s.out := rfl
@[simp] theorem State.withFaultRecord_pending (c : Byte) (info : Word) : (s.withFaultRecord c info).pending = s.pending := rfl
@[simp] theorem State.withFaultRecord_reply (c : Byte) (info : Word) : (s.withFaultRecord c info).reply = s.reply := rfl
@[simp] theorem State.withFaultRecord_epoch (c : Byte) (info : Word) : (s.withFaultRecord c info).epoch = s.epoch := rfl

/-! ## `State.dequeue` -/

@[simp] theorem State.dequeue_cfg (rest : List Transaction) : (s.dequeue rest).cfg = s.cfg := rfl
@[simp] theorem State.dequeue_dispTop (rest : List Transaction) : (s.dequeue rest).dispTop = s.dispTop := rfl
@[simp] theorem State.dequeue_visTop (rest : List Transaction) : (s.dequeue rest).visTop = s.visTop := rfl
@[simp] theorem State.dequeue_visLeft (rest : List Transaction) : (s.dequeue rest).visLeft = s.visLeft := rfl
@[simp] theorem State.dequeue_visW (rest : List Transaction) : (s.dequeue rest).visW = s.visW := rfl
@[simp] theorem State.dequeue_visH (rest : List Transaction) : (s.dequeue rest).visH = s.visH := rfl
@[simp] theorem State.dequeue_videoW (rest : List Transaction) : (s.dequeue rest).videoW = s.videoW := rfl
@[simp] theorem State.dequeue_videoH (rest : List Transaction) : (s.dequeue rest).videoH = s.videoH := rfl
@[simp] theorem State.dequeue_outRate (rest : List Transaction) : (s.dequeue rest).outRate = s.outRate := rfl
@[simp] theorem State.dequeue_chipFreq (rest : List Transaction) : (s.dequeue rest).chipFreq = s.chipFreq := rfl
@[simp] theorem State.dequeue_scanlines (rest : List Transaction) : (s.dequeue rest).scanlines = s.scanlines := rfl
@[simp] theorem State.dequeue_src0Len (rest : List Transaction) : (s.dequeue rest).src0Len = s.src0Len := rfl
@[simp] theorem State.dequeue_src1Len (rest : List Transaction) : (s.dequeue rest).src1Len = s.src1Len := rfl
@[simp] theorem State.dequeue_auxPresent (rest : List Transaction) : (s.dequeue rest).auxPresent = s.auxPresent := rfl
@[simp] theorem State.dequeue_tlen (rest : List Transaction) : (s.dequeue rest).tlen = s.tlen := rfl
@[simp] theorem State.dequeue_lutValid (rest : List Transaction) : (s.dequeue rest).lutValid = s.lutValid := rfl
@[simp] theorem State.dequeue_videoValid (rest : List Transaction) : (s.dequeue rest).videoValid = s.videoValid := rfl
@[simp] theorem State.dequeue_tlenValid (rest : List Transaction) : (s.dequeue rest).tlenValid = s.tlenValid := rfl
@[simp] theorem State.dequeue_rs0Valid (rest : List Transaction) : (s.dequeue rest).rs0Valid = s.rs0Valid := rfl
@[simp] theorem State.dequeue_rs1Valid (rest : List Transaction) : (s.dequeue rest).rs1Valid = s.rs1Valid := rfl
@[simp] theorem State.dequeue_mixValid (rest : List Transaction) : (s.dequeue rest).mixValid = s.mixValid := rfl
@[simp] theorem State.dequeue_outValid (rest : List Transaction) : (s.dequeue rest).outValid = s.outValid := rfl
@[simp] theorem State.dequeue_faulted (rest : List Transaction) : (s.dequeue rest).faulted = s.faulted := rfl
@[simp] theorem State.dequeue_errCode (rest : List Transaction) : (s.dequeue rest).errCode = s.errCode := rfl
@[simp] theorem State.dequeue_errInfo (rest : List Transaction) : (s.dequeue rest).errInfo = s.errInfo := rfl
@[simp] theorem State.dequeue_lut (rest : List Transaction) : (s.dequeue rest).lut = s.lut := rfl
@[simp] theorem State.dequeue_surf (rest : List Transaction) : (s.dequeue rest).surf = s.surf := rfl
@[simp] theorem State.dequeue_fb (rest : List Transaction) : (s.dequeue rest).fb = s.fb := rfl
@[simp] theorem State.dequeue_src0 (rest : List Transaction) : (s.dequeue rest).src0 = s.src0 := rfl
@[simp] theorem State.dequeue_src1 (rest : List Transaction) : (s.dequeue rest).src1 = s.src1 := rfl
@[simp] theorem State.dequeue_rs0 (rest : List Transaction) : (s.dequeue rest).rs0 = s.rs0 := rfl
@[simp] theorem State.dequeue_rs1 (rest : List Transaction) : (s.dequeue rest).rs1 = s.rs1 := rfl
@[simp] theorem State.dequeue_mixb (rest : List Transaction) : (s.dequeue rest).mixb = s.mixb := rfl
@[simp] theorem State.dequeue_out (rest : List Transaction) : (s.dequeue rest).out = s.out := rfl
@[simp] theorem State.dequeue_pending (rest : List Transaction) : (s.dequeue rest).pending = rest := rfl
@[simp] theorem State.dequeue_reply (rest : List Transaction) : (s.dequeue rest).reply = none := rfl
@[simp] theorem State.dequeue_epoch (rest : List Transaction) : (s.dequeue rest).epoch = s.epoch := rfl

/-! ## `State.withReply` -/

@[simp] theorem State.withReply_cfg (v : Word) : (s.withReply v).cfg = s.cfg := rfl
@[simp] theorem State.withReply_dispTop (v : Word) : (s.withReply v).dispTop = s.dispTop := rfl
@[simp] theorem State.withReply_visTop (v : Word) : (s.withReply v).visTop = s.visTop := rfl
@[simp] theorem State.withReply_visLeft (v : Word) : (s.withReply v).visLeft = s.visLeft := rfl
@[simp] theorem State.withReply_visW (v : Word) : (s.withReply v).visW = s.visW := rfl
@[simp] theorem State.withReply_visH (v : Word) : (s.withReply v).visH = s.visH := rfl
@[simp] theorem State.withReply_videoW (v : Word) : (s.withReply v).videoW = s.videoW := rfl
@[simp] theorem State.withReply_videoH (v : Word) : (s.withReply v).videoH = s.videoH := rfl
@[simp] theorem State.withReply_outRate (v : Word) : (s.withReply v).outRate = s.outRate := rfl
@[simp] theorem State.withReply_chipFreq (v : Word) : (s.withReply v).chipFreq = s.chipFreq := rfl
@[simp] theorem State.withReply_scanlines (v : Word) : (s.withReply v).scanlines = s.scanlines := rfl
@[simp] theorem State.withReply_src0Len (v : Word) : (s.withReply v).src0Len = s.src0Len := rfl
@[simp] theorem State.withReply_src1Len (v : Word) : (s.withReply v).src1Len = s.src1Len := rfl
@[simp] theorem State.withReply_auxPresent (v : Word) : (s.withReply v).auxPresent = s.auxPresent := rfl
@[simp] theorem State.withReply_tlen (v : Word) : (s.withReply v).tlen = s.tlen := rfl
@[simp] theorem State.withReply_lutValid (v : Word) : (s.withReply v).lutValid = s.lutValid := rfl
@[simp] theorem State.withReply_videoValid (v : Word) : (s.withReply v).videoValid = s.videoValid := rfl
@[simp] theorem State.withReply_tlenValid (v : Word) : (s.withReply v).tlenValid = s.tlenValid := rfl
@[simp] theorem State.withReply_rs0Valid (v : Word) : (s.withReply v).rs0Valid = s.rs0Valid := rfl
@[simp] theorem State.withReply_rs1Valid (v : Word) : (s.withReply v).rs1Valid = s.rs1Valid := rfl
@[simp] theorem State.withReply_mixValid (v : Word) : (s.withReply v).mixValid = s.mixValid := rfl
@[simp] theorem State.withReply_outValid (v : Word) : (s.withReply v).outValid = s.outValid := rfl
@[simp] theorem State.withReply_faulted (v : Word) : (s.withReply v).faulted = s.faulted := rfl
@[simp] theorem State.withReply_errCode (v : Word) : (s.withReply v).errCode = s.errCode := rfl
@[simp] theorem State.withReply_errInfo (v : Word) : (s.withReply v).errInfo = s.errInfo := rfl
@[simp] theorem State.withReply_lut (v : Word) : (s.withReply v).lut = s.lut := rfl
@[simp] theorem State.withReply_surf (v : Word) : (s.withReply v).surf = s.surf := rfl
@[simp] theorem State.withReply_fb (v : Word) : (s.withReply v).fb = s.fb := rfl
@[simp] theorem State.withReply_src0 (v : Word) : (s.withReply v).src0 = s.src0 := rfl
@[simp] theorem State.withReply_src1 (v : Word) : (s.withReply v).src1 = s.src1 := rfl
@[simp] theorem State.withReply_rs0 (v : Word) : (s.withReply v).rs0 = s.rs0 := rfl
@[simp] theorem State.withReply_rs1 (v : Word) : (s.withReply v).rs1 = s.rs1 := rfl
@[simp] theorem State.withReply_mixb (v : Word) : (s.withReply v).mixb = s.mixb := rfl
@[simp] theorem State.withReply_out (v : Word) : (s.withReply v).out = s.out := rfl
@[simp] theorem State.withReply_pending (v : Word) : (s.withReply v).pending = s.pending := rfl
@[simp] theorem State.withReply_reply (v : Word) : (s.withReply v).reply = some v := rfl
@[simp] theorem State.withReply_epoch (v : Word) : (s.withReply v).epoch = s.epoch := rfl

/-! ## `State.commitLut` -/

@[simp] theorem State.commitLut_cfg (m : Mem 16) : (s.commitLut m).cfg = s.cfg := rfl
@[simp] theorem State.commitLut_dispTop (m : Mem 16) : (s.commitLut m).dispTop = s.dispTop := rfl
@[simp] theorem State.commitLut_visTop (m : Mem 16) : (s.commitLut m).visTop = s.visTop := rfl
@[simp] theorem State.commitLut_visLeft (m : Mem 16) : (s.commitLut m).visLeft = s.visLeft := rfl
@[simp] theorem State.commitLut_visW (m : Mem 16) : (s.commitLut m).visW = s.visW := rfl
@[simp] theorem State.commitLut_visH (m : Mem 16) : (s.commitLut m).visH = s.visH := rfl
@[simp] theorem State.commitLut_videoW (m : Mem 16) : (s.commitLut m).videoW = s.videoW := rfl
@[simp] theorem State.commitLut_videoH (m : Mem 16) : (s.commitLut m).videoH = s.videoH := rfl
@[simp] theorem State.commitLut_outRate (m : Mem 16) : (s.commitLut m).outRate = s.outRate := rfl
@[simp] theorem State.commitLut_chipFreq (m : Mem 16) : (s.commitLut m).chipFreq = s.chipFreq := rfl
@[simp] theorem State.commitLut_scanlines (m : Mem 16) : (s.commitLut m).scanlines = s.scanlines := rfl
@[simp] theorem State.commitLut_src0Len (m : Mem 16) : (s.commitLut m).src0Len = s.src0Len := rfl
@[simp] theorem State.commitLut_src1Len (m : Mem 16) : (s.commitLut m).src1Len = s.src1Len := rfl
@[simp] theorem State.commitLut_auxPresent (m : Mem 16) : (s.commitLut m).auxPresent = s.auxPresent := rfl
@[simp] theorem State.commitLut_tlen (m : Mem 16) : (s.commitLut m).tlen = s.tlen := rfl
@[simp] theorem State.commitLut_lutValid (m : Mem 16) : (s.commitLut m).lutValid = true := rfl
@[simp] theorem State.commitLut_videoValid (m : Mem 16) : (s.commitLut m).videoValid = s.videoValid := rfl
@[simp] theorem State.commitLut_tlenValid (m : Mem 16) : (s.commitLut m).tlenValid = s.tlenValid := rfl
@[simp] theorem State.commitLut_rs0Valid (m : Mem 16) : (s.commitLut m).rs0Valid = s.rs0Valid := rfl
@[simp] theorem State.commitLut_rs1Valid (m : Mem 16) : (s.commitLut m).rs1Valid = s.rs1Valid := rfl
@[simp] theorem State.commitLut_mixValid (m : Mem 16) : (s.commitLut m).mixValid = s.mixValid := rfl
@[simp] theorem State.commitLut_outValid (m : Mem 16) : (s.commitLut m).outValid = s.outValid := rfl
@[simp] theorem State.commitLut_faulted (m : Mem 16) : (s.commitLut m).faulted = s.faulted := rfl
@[simp] theorem State.commitLut_errCode (m : Mem 16) : (s.commitLut m).errCode = s.errCode := rfl
@[simp] theorem State.commitLut_errInfo (m : Mem 16) : (s.commitLut m).errInfo = s.errInfo := rfl
@[simp] theorem State.commitLut_lut (m : Mem 16) : (s.commitLut m).lut = m := rfl
@[simp] theorem State.commitLut_surf (m : Mem 16) : (s.commitLut m).surf = s.surf := rfl
@[simp] theorem State.commitLut_fb (m : Mem 16) : (s.commitLut m).fb = s.fb := rfl
@[simp] theorem State.commitLut_src0 (m : Mem 16) : (s.commitLut m).src0 = s.src0 := rfl
@[simp] theorem State.commitLut_src1 (m : Mem 16) : (s.commitLut m).src1 = s.src1 := rfl
@[simp] theorem State.commitLut_rs0 (m : Mem 16) : (s.commitLut m).rs0 = s.rs0 := rfl
@[simp] theorem State.commitLut_rs1 (m : Mem 16) : (s.commitLut m).rs1 = s.rs1 := rfl
@[simp] theorem State.commitLut_mixb (m : Mem 16) : (s.commitLut m).mixb = s.mixb := rfl
@[simp] theorem State.commitLut_out (m : Mem 16) : (s.commitLut m).out = s.out := rfl
@[simp] theorem State.commitLut_pending (m : Mem 16) : (s.commitLut m).pending = s.pending := rfl
@[simp] theorem State.commitLut_reply (m : Mem 16) : (s.commitLut m).reply = s.reply := rfl
@[simp] theorem State.commitLut_epoch (m : Mem 16) : (s.commitLut m).epoch = s.epoch := rfl

/-! ## `State.commitBlit` -/

@[simp] theorem State.commitBlit_cfg (m : Mem 16) (w h : Word) : (s.commitBlit m w h).cfg = s.cfg := rfl
@[simp] theorem State.commitBlit_dispTop (m : Mem 16) (w h : Word) : (s.commitBlit m w h).dispTop = s.dispTop := rfl
@[simp] theorem State.commitBlit_visTop (m : Mem 16) (w h : Word) : (s.commitBlit m w h).visTop = s.visTop := rfl
@[simp] theorem State.commitBlit_visLeft (m : Mem 16) (w h : Word) : (s.commitBlit m w h).visLeft = s.visLeft := rfl
@[simp] theorem State.commitBlit_visW (m : Mem 16) (w h : Word) : (s.commitBlit m w h).visW = s.visW := rfl
@[simp] theorem State.commitBlit_visH (m : Mem 16) (w h : Word) : (s.commitBlit m w h).visH = s.visH := rfl
@[simp] theorem State.commitBlit_videoW (m : Mem 16) (w h : Word) : (s.commitBlit m w h).videoW = w := rfl
@[simp] theorem State.commitBlit_videoH (m : Mem 16) (w h : Word) : (s.commitBlit m w h).videoH = h := rfl
@[simp] theorem State.commitBlit_outRate (m : Mem 16) (w h : Word) : (s.commitBlit m w h).outRate = s.outRate := rfl
@[simp] theorem State.commitBlit_chipFreq (m : Mem 16) (w h : Word) : (s.commitBlit m w h).chipFreq = s.chipFreq := rfl
@[simp] theorem State.commitBlit_scanlines (m : Mem 16) (w h : Word) : (s.commitBlit m w h).scanlines = s.scanlines := rfl
@[simp] theorem State.commitBlit_src0Len (m : Mem 16) (w h : Word) : (s.commitBlit m w h).src0Len = s.src0Len := rfl
@[simp] theorem State.commitBlit_src1Len (m : Mem 16) (w h : Word) : (s.commitBlit m w h).src1Len = s.src1Len := rfl
@[simp] theorem State.commitBlit_auxPresent (m : Mem 16) (w h : Word) : (s.commitBlit m w h).auxPresent = s.auxPresent := rfl
@[simp] theorem State.commitBlit_tlen (m : Mem 16) (w h : Word) : (s.commitBlit m w h).tlen = s.tlen := rfl
@[simp] theorem State.commitBlit_lutValid (m : Mem 16) (w h : Word) : (s.commitBlit m w h).lutValid = s.lutValid := rfl
@[simp] theorem State.commitBlit_videoValid (m : Mem 16) (w h : Word) : (s.commitBlit m w h).videoValid = true := rfl
@[simp] theorem State.commitBlit_tlenValid (m : Mem 16) (w h : Word) : (s.commitBlit m w h).tlenValid = s.tlenValid := rfl
@[simp] theorem State.commitBlit_rs0Valid (m : Mem 16) (w h : Word) : (s.commitBlit m w h).rs0Valid = s.rs0Valid := rfl
@[simp] theorem State.commitBlit_rs1Valid (m : Mem 16) (w h : Word) : (s.commitBlit m w h).rs1Valid = s.rs1Valid := rfl
@[simp] theorem State.commitBlit_mixValid (m : Mem 16) (w h : Word) : (s.commitBlit m w h).mixValid = s.mixValid := rfl
@[simp] theorem State.commitBlit_outValid (m : Mem 16) (w h : Word) : (s.commitBlit m w h).outValid = s.outValid := rfl
@[simp] theorem State.commitBlit_faulted (m : Mem 16) (w h : Word) : (s.commitBlit m w h).faulted = s.faulted := rfl
@[simp] theorem State.commitBlit_errCode (m : Mem 16) (w h : Word) : (s.commitBlit m w h).errCode = s.errCode := rfl
@[simp] theorem State.commitBlit_errInfo (m : Mem 16) (w h : Word) : (s.commitBlit m w h).errInfo = s.errInfo := rfl
@[simp] theorem State.commitBlit_lut (m : Mem 16) (w h : Word) : (s.commitBlit m w h).lut = s.lut := rfl
@[simp] theorem State.commitBlit_surf (m : Mem 16) (w h : Word) : (s.commitBlit m w h).surf = s.surf := rfl
@[simp] theorem State.commitBlit_fb (m : Mem 16) (w h : Word) : (s.commitBlit m w h).fb = m := rfl
@[simp] theorem State.commitBlit_src0 (m : Mem 16) (w h : Word) : (s.commitBlit m w h).src0 = s.src0 := rfl
@[simp] theorem State.commitBlit_src1 (m : Mem 16) (w h : Word) : (s.commitBlit m w h).src1 = s.src1 := rfl
@[simp] theorem State.commitBlit_rs0 (m : Mem 16) (w h : Word) : (s.commitBlit m w h).rs0 = s.rs0 := rfl
@[simp] theorem State.commitBlit_rs1 (m : Mem 16) (w h : Word) : (s.commitBlit m w h).rs1 = s.rs1 := rfl
@[simp] theorem State.commitBlit_mixb (m : Mem 16) (w h : Word) : (s.commitBlit m w h).mixb = s.mixb := rfl
@[simp] theorem State.commitBlit_out (m : Mem 16) (w h : Word) : (s.commitBlit m w h).out = s.out := rfl
@[simp] theorem State.commitBlit_pending (m : Mem 16) (w h : Word) : (s.commitBlit m w h).pending = s.pending := rfl
@[simp] theorem State.commitBlit_reply (m : Mem 16) (w h : Word) : (s.commitBlit m w h).reply = s.reply := rfl
@[simp] theorem State.commitBlit_epoch (m : Mem 16) (w h : Word) : (s.commitBlit m w h).epoch = s.epoch := rfl

/-! ## `State.commitRs0` -/

@[simp] theorem State.commitRs0_cfg (m : Mem 8) : (s.commitRs0 m).cfg = s.cfg := rfl
@[simp] theorem State.commitRs0_dispTop (m : Mem 8) : (s.commitRs0 m).dispTop = s.dispTop := rfl
@[simp] theorem State.commitRs0_visTop (m : Mem 8) : (s.commitRs0 m).visTop = s.visTop := rfl
@[simp] theorem State.commitRs0_visLeft (m : Mem 8) : (s.commitRs0 m).visLeft = s.visLeft := rfl
@[simp] theorem State.commitRs0_visW (m : Mem 8) : (s.commitRs0 m).visW = s.visW := rfl
@[simp] theorem State.commitRs0_visH (m : Mem 8) : (s.commitRs0 m).visH = s.visH := rfl
@[simp] theorem State.commitRs0_videoW (m : Mem 8) : (s.commitRs0 m).videoW = s.videoW := rfl
@[simp] theorem State.commitRs0_videoH (m : Mem 8) : (s.commitRs0 m).videoH = s.videoH := rfl
@[simp] theorem State.commitRs0_outRate (m : Mem 8) : (s.commitRs0 m).outRate = s.outRate := rfl
@[simp] theorem State.commitRs0_chipFreq (m : Mem 8) : (s.commitRs0 m).chipFreq = s.chipFreq := rfl
@[simp] theorem State.commitRs0_scanlines (m : Mem 8) : (s.commitRs0 m).scanlines = s.scanlines := rfl
@[simp] theorem State.commitRs0_src0Len (m : Mem 8) : (s.commitRs0 m).src0Len = s.src0Len := rfl
@[simp] theorem State.commitRs0_src1Len (m : Mem 8) : (s.commitRs0 m).src1Len = s.src1Len := rfl
@[simp] theorem State.commitRs0_auxPresent (m : Mem 8) : (s.commitRs0 m).auxPresent = s.auxPresent := rfl
@[simp] theorem State.commitRs0_tlen (m : Mem 8) : (s.commitRs0 m).tlen = s.tlen := rfl
@[simp] theorem State.commitRs0_lutValid (m : Mem 8) : (s.commitRs0 m).lutValid = s.lutValid := rfl
@[simp] theorem State.commitRs0_videoValid (m : Mem 8) : (s.commitRs0 m).videoValid = s.videoValid := rfl
@[simp] theorem State.commitRs0_tlenValid (m : Mem 8) : (s.commitRs0 m).tlenValid = s.tlenValid := rfl
@[simp] theorem State.commitRs0_rs0Valid (m : Mem 8) : (s.commitRs0 m).rs0Valid = true := rfl
@[simp] theorem State.commitRs0_rs1Valid (m : Mem 8) : (s.commitRs0 m).rs1Valid = s.rs1Valid := rfl
@[simp] theorem State.commitRs0_mixValid (m : Mem 8) : (s.commitRs0 m).mixValid = s.mixValid := rfl
@[simp] theorem State.commitRs0_outValid (m : Mem 8) : (s.commitRs0 m).outValid = s.outValid := rfl
@[simp] theorem State.commitRs0_faulted (m : Mem 8) : (s.commitRs0 m).faulted = s.faulted := rfl
@[simp] theorem State.commitRs0_errCode (m : Mem 8) : (s.commitRs0 m).errCode = s.errCode := rfl
@[simp] theorem State.commitRs0_errInfo (m : Mem 8) : (s.commitRs0 m).errInfo = s.errInfo := rfl
@[simp] theorem State.commitRs0_lut (m : Mem 8) : (s.commitRs0 m).lut = s.lut := rfl
@[simp] theorem State.commitRs0_surf (m : Mem 8) : (s.commitRs0 m).surf = s.surf := rfl
@[simp] theorem State.commitRs0_fb (m : Mem 8) : (s.commitRs0 m).fb = s.fb := rfl
@[simp] theorem State.commitRs0_src0 (m : Mem 8) : (s.commitRs0 m).src0 = s.src0 := rfl
@[simp] theorem State.commitRs0_src1 (m : Mem 8) : (s.commitRs0 m).src1 = s.src1 := rfl
@[simp] theorem State.commitRs0_rs0 (m : Mem 8) : (s.commitRs0 m).rs0 = m := rfl
@[simp] theorem State.commitRs0_rs1 (m : Mem 8) : (s.commitRs0 m).rs1 = s.rs1 := rfl
@[simp] theorem State.commitRs0_mixb (m : Mem 8) : (s.commitRs0 m).mixb = s.mixb := rfl
@[simp] theorem State.commitRs0_out (m : Mem 8) : (s.commitRs0 m).out = s.out := rfl
@[simp] theorem State.commitRs0_pending (m : Mem 8) : (s.commitRs0 m).pending = s.pending := rfl
@[simp] theorem State.commitRs0_reply (m : Mem 8) : (s.commitRs0 m).reply = s.reply := rfl
@[simp] theorem State.commitRs0_epoch (m : Mem 8) : (s.commitRs0 m).epoch = s.epoch := rfl

/-! ## `State.commitRs1` -/

@[simp] theorem State.commitRs1_cfg (m : Mem 8) : (s.commitRs1 m).cfg = s.cfg := rfl
@[simp] theorem State.commitRs1_dispTop (m : Mem 8) : (s.commitRs1 m).dispTop = s.dispTop := rfl
@[simp] theorem State.commitRs1_visTop (m : Mem 8) : (s.commitRs1 m).visTop = s.visTop := rfl
@[simp] theorem State.commitRs1_visLeft (m : Mem 8) : (s.commitRs1 m).visLeft = s.visLeft := rfl
@[simp] theorem State.commitRs1_visW (m : Mem 8) : (s.commitRs1 m).visW = s.visW := rfl
@[simp] theorem State.commitRs1_visH (m : Mem 8) : (s.commitRs1 m).visH = s.visH := rfl
@[simp] theorem State.commitRs1_videoW (m : Mem 8) : (s.commitRs1 m).videoW = s.videoW := rfl
@[simp] theorem State.commitRs1_videoH (m : Mem 8) : (s.commitRs1 m).videoH = s.videoH := rfl
@[simp] theorem State.commitRs1_outRate (m : Mem 8) : (s.commitRs1 m).outRate = s.outRate := rfl
@[simp] theorem State.commitRs1_chipFreq (m : Mem 8) : (s.commitRs1 m).chipFreq = s.chipFreq := rfl
@[simp] theorem State.commitRs1_scanlines (m : Mem 8) : (s.commitRs1 m).scanlines = s.scanlines := rfl
@[simp] theorem State.commitRs1_src0Len (m : Mem 8) : (s.commitRs1 m).src0Len = s.src0Len := rfl
@[simp] theorem State.commitRs1_src1Len (m : Mem 8) : (s.commitRs1 m).src1Len = s.src1Len := rfl
@[simp] theorem State.commitRs1_auxPresent (m : Mem 8) : (s.commitRs1 m).auxPresent = s.auxPresent := rfl
@[simp] theorem State.commitRs1_tlen (m : Mem 8) : (s.commitRs1 m).tlen = s.tlen := rfl
@[simp] theorem State.commitRs1_lutValid (m : Mem 8) : (s.commitRs1 m).lutValid = s.lutValid := rfl
@[simp] theorem State.commitRs1_videoValid (m : Mem 8) : (s.commitRs1 m).videoValid = s.videoValid := rfl
@[simp] theorem State.commitRs1_tlenValid (m : Mem 8) : (s.commitRs1 m).tlenValid = s.tlenValid := rfl
@[simp] theorem State.commitRs1_rs0Valid (m : Mem 8) : (s.commitRs1 m).rs0Valid = s.rs0Valid := rfl
@[simp] theorem State.commitRs1_rs1Valid (m : Mem 8) : (s.commitRs1 m).rs1Valid = true := rfl
@[simp] theorem State.commitRs1_mixValid (m : Mem 8) : (s.commitRs1 m).mixValid = s.mixValid := rfl
@[simp] theorem State.commitRs1_outValid (m : Mem 8) : (s.commitRs1 m).outValid = s.outValid := rfl
@[simp] theorem State.commitRs1_faulted (m : Mem 8) : (s.commitRs1 m).faulted = s.faulted := rfl
@[simp] theorem State.commitRs1_errCode (m : Mem 8) : (s.commitRs1 m).errCode = s.errCode := rfl
@[simp] theorem State.commitRs1_errInfo (m : Mem 8) : (s.commitRs1 m).errInfo = s.errInfo := rfl
@[simp] theorem State.commitRs1_lut (m : Mem 8) : (s.commitRs1 m).lut = s.lut := rfl
@[simp] theorem State.commitRs1_surf (m : Mem 8) : (s.commitRs1 m).surf = s.surf := rfl
@[simp] theorem State.commitRs1_fb (m : Mem 8) : (s.commitRs1 m).fb = s.fb := rfl
@[simp] theorem State.commitRs1_src0 (m : Mem 8) : (s.commitRs1 m).src0 = s.src0 := rfl
@[simp] theorem State.commitRs1_src1 (m : Mem 8) : (s.commitRs1 m).src1 = s.src1 := rfl
@[simp] theorem State.commitRs1_rs0 (m : Mem 8) : (s.commitRs1 m).rs0 = s.rs0 := rfl
@[simp] theorem State.commitRs1_rs1 (m : Mem 8) : (s.commitRs1 m).rs1 = m := rfl
@[simp] theorem State.commitRs1_mixb (m : Mem 8) : (s.commitRs1 m).mixb = s.mixb := rfl
@[simp] theorem State.commitRs1_out (m : Mem 8) : (s.commitRs1 m).out = s.out := rfl
@[simp] theorem State.commitRs1_pending (m : Mem 8) : (s.commitRs1 m).pending = s.pending := rfl
@[simp] theorem State.commitRs1_reply (m : Mem 8) : (s.commitRs1 m).reply = s.reply := rfl
@[simp] theorem State.commitRs1_epoch (m : Mem 8) : (s.commitRs1 m).epoch = s.epoch := rfl

/-! ## `State.commitMix` -/

@[simp] theorem State.commitMix_cfg (m : Mem 8) : (s.commitMix m).cfg = s.cfg := rfl
@[simp] theorem State.commitMix_dispTop (m : Mem 8) : (s.commitMix m).dispTop = s.dispTop := rfl
@[simp] theorem State.commitMix_visTop (m : Mem 8) : (s.commitMix m).visTop = s.visTop := rfl
@[simp] theorem State.commitMix_visLeft (m : Mem 8) : (s.commitMix m).visLeft = s.visLeft := rfl
@[simp] theorem State.commitMix_visW (m : Mem 8) : (s.commitMix m).visW = s.visW := rfl
@[simp] theorem State.commitMix_visH (m : Mem 8) : (s.commitMix m).visH = s.visH := rfl
@[simp] theorem State.commitMix_videoW (m : Mem 8) : (s.commitMix m).videoW = s.videoW := rfl
@[simp] theorem State.commitMix_videoH (m : Mem 8) : (s.commitMix m).videoH = s.videoH := rfl
@[simp] theorem State.commitMix_outRate (m : Mem 8) : (s.commitMix m).outRate = s.outRate := rfl
@[simp] theorem State.commitMix_chipFreq (m : Mem 8) : (s.commitMix m).chipFreq = s.chipFreq := rfl
@[simp] theorem State.commitMix_scanlines (m : Mem 8) : (s.commitMix m).scanlines = s.scanlines := rfl
@[simp] theorem State.commitMix_src0Len (m : Mem 8) : (s.commitMix m).src0Len = s.src0Len := rfl
@[simp] theorem State.commitMix_src1Len (m : Mem 8) : (s.commitMix m).src1Len = s.src1Len := rfl
@[simp] theorem State.commitMix_auxPresent (m : Mem 8) : (s.commitMix m).auxPresent = s.auxPresent := rfl
@[simp] theorem State.commitMix_tlen (m : Mem 8) : (s.commitMix m).tlen = s.tlen := rfl
@[simp] theorem State.commitMix_lutValid (m : Mem 8) : (s.commitMix m).lutValid = s.lutValid := rfl
@[simp] theorem State.commitMix_videoValid (m : Mem 8) : (s.commitMix m).videoValid = s.videoValid := rfl
@[simp] theorem State.commitMix_tlenValid (m : Mem 8) : (s.commitMix m).tlenValid = s.tlenValid := rfl
@[simp] theorem State.commitMix_rs0Valid (m : Mem 8) : (s.commitMix m).rs0Valid = s.rs0Valid := rfl
@[simp] theorem State.commitMix_rs1Valid (m : Mem 8) : (s.commitMix m).rs1Valid = s.rs1Valid := rfl
@[simp] theorem State.commitMix_mixValid (m : Mem 8) : (s.commitMix m).mixValid = true := rfl
@[simp] theorem State.commitMix_outValid (m : Mem 8) : (s.commitMix m).outValid = s.outValid := rfl
@[simp] theorem State.commitMix_faulted (m : Mem 8) : (s.commitMix m).faulted = s.faulted := rfl
@[simp] theorem State.commitMix_errCode (m : Mem 8) : (s.commitMix m).errCode = s.errCode := rfl
@[simp] theorem State.commitMix_errInfo (m : Mem 8) : (s.commitMix m).errInfo = s.errInfo := rfl
@[simp] theorem State.commitMix_lut (m : Mem 8) : (s.commitMix m).lut = s.lut := rfl
@[simp] theorem State.commitMix_surf (m : Mem 8) : (s.commitMix m).surf = s.surf := rfl
@[simp] theorem State.commitMix_fb (m : Mem 8) : (s.commitMix m).fb = s.fb := rfl
@[simp] theorem State.commitMix_src0 (m : Mem 8) : (s.commitMix m).src0 = s.src0 := rfl
@[simp] theorem State.commitMix_src1 (m : Mem 8) : (s.commitMix m).src1 = s.src1 := rfl
@[simp] theorem State.commitMix_rs0 (m : Mem 8) : (s.commitMix m).rs0 = s.rs0 := rfl
@[simp] theorem State.commitMix_rs1 (m : Mem 8) : (s.commitMix m).rs1 = s.rs1 := rfl
@[simp] theorem State.commitMix_mixb (m : Mem 8) : (s.commitMix m).mixb = m := rfl
@[simp] theorem State.commitMix_out (m : Mem 8) : (s.commitMix m).out = s.out := rfl
@[simp] theorem State.commitMix_pending (m : Mem 8) : (s.commitMix m).pending = s.pending := rfl
@[simp] theorem State.commitMix_reply (m : Mem 8) : (s.commitMix m).reply = s.reply := rfl
@[simp] theorem State.commitMix_epoch (m : Mem 8) : (s.commitMix m).epoch = s.epoch := rfl

/-! ## `State.commitOut` -/

@[simp] theorem State.commitOut_cfg (m : Mem 32) : (s.commitOut m).cfg = s.cfg := rfl
@[simp] theorem State.commitOut_dispTop (m : Mem 32) : (s.commitOut m).dispTop = s.dispTop := rfl
@[simp] theorem State.commitOut_visTop (m : Mem 32) : (s.commitOut m).visTop = s.visTop := rfl
@[simp] theorem State.commitOut_visLeft (m : Mem 32) : (s.commitOut m).visLeft = s.visLeft := rfl
@[simp] theorem State.commitOut_visW (m : Mem 32) : (s.commitOut m).visW = s.visW := rfl
@[simp] theorem State.commitOut_visH (m : Mem 32) : (s.commitOut m).visH = s.visH := rfl
@[simp] theorem State.commitOut_videoW (m : Mem 32) : (s.commitOut m).videoW = s.videoW := rfl
@[simp] theorem State.commitOut_videoH (m : Mem 32) : (s.commitOut m).videoH = s.videoH := rfl
@[simp] theorem State.commitOut_outRate (m : Mem 32) : (s.commitOut m).outRate = s.outRate := rfl
@[simp] theorem State.commitOut_chipFreq (m : Mem 32) : (s.commitOut m).chipFreq = s.chipFreq := rfl
@[simp] theorem State.commitOut_scanlines (m : Mem 32) : (s.commitOut m).scanlines = s.scanlines := rfl
@[simp] theorem State.commitOut_src0Len (m : Mem 32) : (s.commitOut m).src0Len = s.src0Len := rfl
@[simp] theorem State.commitOut_src1Len (m : Mem 32) : (s.commitOut m).src1Len = s.src1Len := rfl
@[simp] theorem State.commitOut_auxPresent (m : Mem 32) : (s.commitOut m).auxPresent = s.auxPresent := rfl
@[simp] theorem State.commitOut_tlen (m : Mem 32) : (s.commitOut m).tlen = s.tlen := rfl
@[simp] theorem State.commitOut_lutValid (m : Mem 32) : (s.commitOut m).lutValid = s.lutValid := rfl
@[simp] theorem State.commitOut_videoValid (m : Mem 32) : (s.commitOut m).videoValid = s.videoValid := rfl
@[simp] theorem State.commitOut_tlenValid (m : Mem 32) : (s.commitOut m).tlenValid = s.tlenValid := rfl
@[simp] theorem State.commitOut_rs0Valid (m : Mem 32) : (s.commitOut m).rs0Valid = s.rs0Valid := rfl
@[simp] theorem State.commitOut_rs1Valid (m : Mem 32) : (s.commitOut m).rs1Valid = s.rs1Valid := rfl
@[simp] theorem State.commitOut_mixValid (m : Mem 32) : (s.commitOut m).mixValid = s.mixValid := rfl
@[simp] theorem State.commitOut_outValid (m : Mem 32) : (s.commitOut m).outValid = true := rfl
@[simp] theorem State.commitOut_faulted (m : Mem 32) : (s.commitOut m).faulted = s.faulted := rfl
@[simp] theorem State.commitOut_errCode (m : Mem 32) : (s.commitOut m).errCode = s.errCode := rfl
@[simp] theorem State.commitOut_errInfo (m : Mem 32) : (s.commitOut m).errInfo = s.errInfo := rfl
@[simp] theorem State.commitOut_lut (m : Mem 32) : (s.commitOut m).lut = s.lut := rfl
@[simp] theorem State.commitOut_surf (m : Mem 32) : (s.commitOut m).surf = s.surf := rfl
@[simp] theorem State.commitOut_fb (m : Mem 32) : (s.commitOut m).fb = s.fb := rfl
@[simp] theorem State.commitOut_src0 (m : Mem 32) : (s.commitOut m).src0 = s.src0 := rfl
@[simp] theorem State.commitOut_src1 (m : Mem 32) : (s.commitOut m).src1 = s.src1 := rfl
@[simp] theorem State.commitOut_rs0 (m : Mem 32) : (s.commitOut m).rs0 = s.rs0 := rfl
@[simp] theorem State.commitOut_rs1 (m : Mem 32) : (s.commitOut m).rs1 = s.rs1 := rfl
@[simp] theorem State.commitOut_mixb (m : Mem 32) : (s.commitOut m).mixb = s.mixb := rfl
@[simp] theorem State.commitOut_out (m : Mem 32) : (s.commitOut m).out = m := rfl
@[simp] theorem State.commitOut_pending (m : Mem 32) : (s.commitOut m).pending = s.pending := rfl
@[simp] theorem State.commitOut_reply (m : Mem 32) : (s.commitOut m).reply = s.reply := rfl
@[simp] theorem State.commitOut_epoch (m : Mem 32) : (s.commitOut m).epoch = s.epoch := rfl

/-! ## `State.afterReset` -/

@[simp] theorem State.afterReset_cfg : s.afterReset.cfg = s.cfg := rfl
@[simp] theorem State.afterReset_dispTop : s.afterReset.dispTop = (State.resetOf s.cfg).dispTop := rfl
@[simp] theorem State.afterReset_visTop : s.afterReset.visTop = (State.resetOf s.cfg).visTop := rfl
@[simp] theorem State.afterReset_visLeft : s.afterReset.visLeft = (State.resetOf s.cfg).visLeft := rfl
@[simp] theorem State.afterReset_visW : s.afterReset.visW = (State.resetOf s.cfg).visW := rfl
@[simp] theorem State.afterReset_visH : s.afterReset.visH = (State.resetOf s.cfg).visH := rfl
@[simp] theorem State.afterReset_videoW : s.afterReset.videoW = (State.resetOf s.cfg).videoW := rfl
@[simp] theorem State.afterReset_videoH : s.afterReset.videoH = (State.resetOf s.cfg).videoH := rfl
@[simp] theorem State.afterReset_outRate : s.afterReset.outRate = (State.resetOf s.cfg).outRate := rfl
@[simp] theorem State.afterReset_chipFreq : s.afterReset.chipFreq = (State.resetOf s.cfg).chipFreq := rfl
@[simp] theorem State.afterReset_scanlines : s.afterReset.scanlines = (State.resetOf s.cfg).scanlines := rfl
@[simp] theorem State.afterReset_src0Len : s.afterReset.src0Len = (State.resetOf s.cfg).src0Len := rfl
@[simp] theorem State.afterReset_src1Len : s.afterReset.src1Len = (State.resetOf s.cfg).src1Len := rfl
@[simp] theorem State.afterReset_auxPresent : s.afterReset.auxPresent = (State.resetOf s.cfg).auxPresent := rfl
@[simp] theorem State.afterReset_tlen : s.afterReset.tlen = (State.resetOf s.cfg).tlen := rfl
@[simp] theorem State.afterReset_lutValid : s.afterReset.lutValid = (State.resetOf s.cfg).lutValid := rfl
@[simp] theorem State.afterReset_videoValid : s.afterReset.videoValid = (State.resetOf s.cfg).videoValid := rfl
@[simp] theorem State.afterReset_tlenValid : s.afterReset.tlenValid = (State.resetOf s.cfg).tlenValid := rfl
@[simp] theorem State.afterReset_rs0Valid : s.afterReset.rs0Valid = (State.resetOf s.cfg).rs0Valid := rfl
@[simp] theorem State.afterReset_rs1Valid : s.afterReset.rs1Valid = (State.resetOf s.cfg).rs1Valid := rfl
@[simp] theorem State.afterReset_mixValid : s.afterReset.mixValid = (State.resetOf s.cfg).mixValid := rfl
@[simp] theorem State.afterReset_outValid : s.afterReset.outValid = (State.resetOf s.cfg).outValid := rfl
@[simp] theorem State.afterReset_faulted : s.afterReset.faulted = (State.resetOf s.cfg).faulted := rfl
@[simp] theorem State.afterReset_errCode : s.afterReset.errCode = (State.resetOf s.cfg).errCode := rfl
@[simp] theorem State.afterReset_errInfo : s.afterReset.errInfo = (State.resetOf s.cfg).errInfo := rfl
@[simp] theorem State.afterReset_lut : s.afterReset.lut = (State.resetOf s.cfg).lut := rfl
@[simp] theorem State.afterReset_surf : s.afterReset.surf = (State.resetOf s.cfg).surf := rfl
@[simp] theorem State.afterReset_fb : s.afterReset.fb = (State.resetOf s.cfg).fb := rfl
@[simp] theorem State.afterReset_src0 : s.afterReset.src0 = (State.resetOf s.cfg).src0 := rfl
@[simp] theorem State.afterReset_src1 : s.afterReset.src1 = (State.resetOf s.cfg).src1 := rfl
@[simp] theorem State.afterReset_rs0 : s.afterReset.rs0 = (State.resetOf s.cfg).rs0 := rfl
@[simp] theorem State.afterReset_rs1 : s.afterReset.rs1 = (State.resetOf s.cfg).rs1 := rfl
@[simp] theorem State.afterReset_mixb : s.afterReset.mixb = (State.resetOf s.cfg).mixb := rfl
@[simp] theorem State.afterReset_out : s.afterReset.out = (State.resetOf s.cfg).out := rfl
@[simp] theorem State.afterReset_pending : s.afterReset.pending = s.pending := rfl
@[simp] theorem State.afterReset_reply : s.afterReset.reply = (State.resetOf s.cfg).reply := rfl
@[simp] theorem State.afterReset_epoch : s.afterReset.epoch = s.epoch + 1 := rfl

/-! ## `State.takeFault` and `State.latchTlen` -/

/-- In the FAULTED state nothing is recorded (R206). -/
theorem State.takeFault_of_faulted (c : ErrCode) (info : Word) (h : s.faulted = true) : s.takeFault c info = s := by
  simp [State.takeFault, h]

/-- The first fault is recorded, and nothing else changes (R203). -/
theorem State.takeFault_of_not_faulted (c : ErrCode) (info : Word) (h : s.faulted = false) :
    s.takeFault c info = s.withFaultRecord c.code info := by
  simp [State.takeFault, h]

/-- After a fault the block is FAULTED. -/
@[simp] theorem State.takeFault_faulted (c : ErrCode) (info : Word) : (s.takeFault c info).faulted = true := by
  unfold State.takeFault
  split
  · assumption
  · rfl

/-- The latch, once set, keeps its value (R138). -/
theorem State.latchTlen_of_valid (t : Word) (h : s.tlenValid = true) : s.latchTlen t = s := by
  simp [State.latchTlen, h]

/-- The first latch (R138). -/
theorem State.latchTlen_of_not_valid (t : Word) (h : s.tlenValid = false) :
    s.latchTlen t = { s with tlen := t, tlenValid := true } := by
  simp [State.latchTlen, h]

/-- The latch is set afterwards. -/
@[simp] theorem State.latchTlen_tlenValid (t : Word) : (s.latchTlen t).tlenValid = true := by
  unfold State.latchTlen
  split
  · assumption
  · rfl

@[simp] theorem State.latchTlen_cfg (t : Word) : (s.latchTlen t).cfg = s.cfg := by
  unfold State.latchTlen; split <;> rfl
@[simp] theorem State.latchTlen_dispTop (t : Word) : (s.latchTlen t).dispTop = s.dispTop := by
  unfold State.latchTlen; split <;> rfl
@[simp] theorem State.latchTlen_visTop (t : Word) : (s.latchTlen t).visTop = s.visTop := by
  unfold State.latchTlen; split <;> rfl
@[simp] theorem State.latchTlen_visLeft (t : Word) : (s.latchTlen t).visLeft = s.visLeft := by
  unfold State.latchTlen; split <;> rfl
@[simp] theorem State.latchTlen_visW (t : Word) : (s.latchTlen t).visW = s.visW := by
  unfold State.latchTlen; split <;> rfl
@[simp] theorem State.latchTlen_visH (t : Word) : (s.latchTlen t).visH = s.visH := by
  unfold State.latchTlen; split <;> rfl
@[simp] theorem State.latchTlen_videoW (t : Word) : (s.latchTlen t).videoW = s.videoW := by
  unfold State.latchTlen; split <;> rfl
@[simp] theorem State.latchTlen_videoH (t : Word) : (s.latchTlen t).videoH = s.videoH := by
  unfold State.latchTlen; split <;> rfl
@[simp] theorem State.latchTlen_outRate (t : Word) : (s.latchTlen t).outRate = s.outRate := by
  unfold State.latchTlen; split <;> rfl
@[simp] theorem State.latchTlen_chipFreq (t : Word) : (s.latchTlen t).chipFreq = s.chipFreq := by
  unfold State.latchTlen; split <;> rfl
@[simp] theorem State.latchTlen_scanlines (t : Word) : (s.latchTlen t).scanlines = s.scanlines := by
  unfold State.latchTlen; split <;> rfl
@[simp] theorem State.latchTlen_src0Len (t : Word) : (s.latchTlen t).src0Len = s.src0Len := by
  unfold State.latchTlen; split <;> rfl
@[simp] theorem State.latchTlen_src1Len (t : Word) : (s.latchTlen t).src1Len = s.src1Len := by
  unfold State.latchTlen; split <;> rfl
@[simp] theorem State.latchTlen_auxPresent (t : Word) : (s.latchTlen t).auxPresent = s.auxPresent := by
  unfold State.latchTlen; split <;> rfl
@[simp] theorem State.latchTlen_lutValid (t : Word) : (s.latchTlen t).lutValid = s.lutValid := by
  unfold State.latchTlen; split <;> rfl
@[simp] theorem State.latchTlen_videoValid (t : Word) : (s.latchTlen t).videoValid = s.videoValid := by
  unfold State.latchTlen; split <;> rfl
@[simp] theorem State.latchTlen_rs0Valid (t : Word) : (s.latchTlen t).rs0Valid = s.rs0Valid := by
  unfold State.latchTlen; split <;> rfl
@[simp] theorem State.latchTlen_rs1Valid (t : Word) : (s.latchTlen t).rs1Valid = s.rs1Valid := by
  unfold State.latchTlen; split <;> rfl
@[simp] theorem State.latchTlen_mixValid (t : Word) : (s.latchTlen t).mixValid = s.mixValid := by
  unfold State.latchTlen; split <;> rfl
@[simp] theorem State.latchTlen_outValid (t : Word) : (s.latchTlen t).outValid = s.outValid := by
  unfold State.latchTlen; split <;> rfl
@[simp] theorem State.latchTlen_faulted (t : Word) : (s.latchTlen t).faulted = s.faulted := by
  unfold State.latchTlen; split <;> rfl
@[simp] theorem State.latchTlen_errCode (t : Word) : (s.latchTlen t).errCode = s.errCode := by
  unfold State.latchTlen; split <;> rfl
@[simp] theorem State.latchTlen_errInfo (t : Word) : (s.latchTlen t).errInfo = s.errInfo := by
  unfold State.latchTlen; split <;> rfl
@[simp] theorem State.latchTlen_lut (t : Word) : (s.latchTlen t).lut = s.lut := by
  unfold State.latchTlen; split <;> rfl
@[simp] theorem State.latchTlen_surf (t : Word) : (s.latchTlen t).surf = s.surf := by
  unfold State.latchTlen; split <;> rfl
@[simp] theorem State.latchTlen_fb (t : Word) : (s.latchTlen t).fb = s.fb := by
  unfold State.latchTlen; split <;> rfl
@[simp] theorem State.latchTlen_src0 (t : Word) : (s.latchTlen t).src0 = s.src0 := by
  unfold State.latchTlen; split <;> rfl
@[simp] theorem State.latchTlen_src1 (t : Word) : (s.latchTlen t).src1 = s.src1 := by
  unfold State.latchTlen; split <;> rfl
@[simp] theorem State.latchTlen_rs0 (t : Word) : (s.latchTlen t).rs0 = s.rs0 := by
  unfold State.latchTlen; split <;> rfl
@[simp] theorem State.latchTlen_rs1 (t : Word) : (s.latchTlen t).rs1 = s.rs1 := by
  unfold State.latchTlen; split <;> rfl
@[simp] theorem State.latchTlen_mixb (t : Word) : (s.latchTlen t).mixb = s.mixb := by
  unfold State.latchTlen; split <;> rfl
@[simp] theorem State.latchTlen_out (t : Word) : (s.latchTlen t).out = s.out := by
  unfold State.latchTlen; split <;> rfl
@[simp] theorem State.latchTlen_pending (t : Word) : (s.latchTlen t).pending = s.pending := by
  unfold State.latchTlen; split <;> rfl
@[simp] theorem State.latchTlen_reply (t : Word) : (s.latchTlen t).reply = s.reply := by
  unfold State.latchTlen; split <;> rfl
@[simp] theorem State.latchTlen_epoch (t : Word) : (s.latchTlen t).epoch = s.epoch := by
  unfold State.latchTlen; split <;> rfl

end Sys2Proof.Machine
end

