-- ==== Sys2Proof/Laws/Ops.lean ====
section
/-! SUPPORT. What each shared operation can do, said once: reading an element, a loop, and the frame of a command. -/

namespace Sys2Proof.Machine

/-! ## Reading an element -/

theorem element_eq_ok {width : Nat} (space : Space) (m : Mem width) (i : Nat) (v : BitVec width) :
    element space m i = .ok v ↔ m.read i = some v := by
  cases h : m.read i <;> simp [element, h]

theorem element_eq_error {width : Nat} (space : Space) (m : Mem width) (i : Nat) (e : Fault) :
    element space m i = .error e ↔ m.read i = none ∧ e = .uninit space i := by
  cases h : m.read i <;> simp [element, h, eq_comm]

/-! ## A loop -/

variable {ι α : Type} (f : ι → Except Fault α)

@[simp] theorem collect_nil : collect f [] = .ok [] := rfl

theorem collect_cons_ok (i : ι) (is : List ι) (vs : List α) :
    collect f (i :: is) = .ok vs ↔ ∃ v ws, f i = .ok v ∧ collect f is = .ok ws ∧ vs = v :: ws := by
  cases hi : f i with
  | error e => simp [collect, hi]
  | ok v => cases hs : collect f is <;> simp [collect, hi, hs, eq_comm]

/-- A loop that ends yields one value an iteration, each the iteration's own. -/
theorem collect_ok (is : List ι) (vs : List α) (h : collect f is = .ok vs) :
    vs.length = is.length ∧ ∀ k (hk : k < is.length), ∃ v, f is[k] = .ok v ∧ vs[k]? = some v := by
  induction is generalizing vs with
  | nil => simp_all [collect]
  | cons i is ih =>
    obtain ⟨v, ws, hv, hws, rfl⟩ := (collect_cons_ok f i is vs).1 h
    obtain ⟨hlen, hget⟩ := ih ws hws
    refine ⟨by simp [hlen], fun k hk => ?_⟩
    cases k with
    | zero => exact ⟨v, hv, rfl⟩
    | succ k => simpa using hget k (by simpa using hk)

/-- A loop whose every iteration succeeds ends. -/
theorem collect_total (is : List ι) (h : ∀ i ∈ is, ∃ v, f i = .ok v) : ∃ vs, collect f is = .ok vs := by
  induction is with
  | nil => exact ⟨[], rfl⟩
  | cons i is ih =>
    obtain ⟨v, hv⟩ := h i List.mem_cons_self
    obtain ⟨vs, hvs⟩ := ih fun j hj => h j (List.mem_cons_of_mem _ hj)
    exact ⟨v :: vs, (collect_cons_ok f i is _).2 ⟨v, vs, hv, hvs, rfl⟩⟩

/-- A loop that fails does so at an iteration that fails. -/
theorem collect_error (is : List ι) (e : Fault) (h : collect f is = .error e) : ∃ i ∈ is, f i = .error e := by
  induction is with
  | nil => simp [collect] at h
  | cons i is ih =>
    simp only [collect] at h
    split at h
    · exact ⟨i, List.mem_cons_self, by simp_all⟩
    · split at h
      · obtain ⟨j, hj, he⟩ := ih (by simp_all)
        exact ⟨j, List.mem_cons_of_mem _ hj, he⟩
      · simp at h

/-- Two loops with the same iterations are the same. -/
theorem collect_congr (g : ι → Except Fault α) (is : List ι) (h : ∀ i ∈ is, f i = g i) :
    collect f is = collect g is := by
  induction is with
  | nil => rfl
  | cons i is ih =>
    simp only [collect, h i List.mem_cons_self, ih fun j hj => h j (List.mem_cons_of_mem _ hj)]

/-! ## The frame of a command -/

variable (i : Instr) (check : State → Option ErrCode) (effect : State → Except Fault State) (s : State)

/-- A FAULTED block ignores a command (R206). -/
theorem runCommand_of_faulted (h : s.faulted = true) : runCommand i check effect s = .next s := by
  simp [runCommand, h]

/-- A failing check is recorded and nothing else happens (R203, R204). -/
theorem runCommand_of_check (c : ErrCode) (h : s.faulted = false) (hc : check s = some c) :
    runCommand i check effect s = .next (s.withFaultRecord c.code (encode i)) := by
  simp [runCommand, h, hc, State.takeFault]

/-- A command whose checks pass has its effect. -/
theorem runCommand_of_effect (t : State) (h : s.faulted = false) (hc : check s = none) (he : effect s = .ok t) :
    runCommand i check effect s = .next t := by
  simp [runCommand, h, hc, he]

/-- A command whose checks pass and that meets an unwritten element stops the model (R209). -/
theorem runCommand_of_uninit (e : Fault) (h : s.faulted = false) (hc : check s = none) (he : effect s = .error e) :
    runCommand i check effect s = .fault e := by
  simp [runCommand, h, hc, he]

/-- Everything a command that answers a next state can have done. -/
theorem runCommand_next (t : State) (h : runCommand i check effect s = .next t) :
    (s.faulted = true ∧ t = s) ∨
    (s.faulted = false ∧ ∃ c, check s = some c ∧ t = s.withFaultRecord c.code (encode i)) ∨
    (s.faulted = false ∧ check s = none ∧ effect s = .ok t) := by
  unfold runCommand at h
  split at h
  · exact .inl ⟨‹_›, by simp_all⟩
  · have hf : s.faulted = false := by simp_all
    split at h
    · rw [State.takeFault_of_not_faulted s _ _ hf] at h
      exact .inr (.inl ⟨hf, _, ‹_›, by simp_all⟩)
    · split at h
      · exact .inr (.inr ⟨hf, ‹_›, by simp_all⟩)
      · simp at h

/-- When a command stops the model. -/
theorem runCommand_fault (e : Fault) (h : runCommand i check effect s = .fault e) :
    s.faulted = false ∧ check s = none ∧ effect s = .error e := by
  unfold runCommand at h
  split at h
  · simp at h
  · split at h
    · simp at h
    · split at h
      · simp at h
      · simp_all

/-- No command is refused. -/
theorem runCommand_ne_refused (r : Refusal) : runCommand i check effect s ≠ .refused r := by
  unfold runCommand
  split
  · simp
  · split
    · simp
    · split <;> simp

end Sys2Proof.Machine
end

