-- ==== Sys2Proof/Laws/Commands.lean ====
section
/-! SUPPORT. What the effect of each command is when its checks pass: one lemma says what a successful effect leaves,
one when it succeeds. -/

namespace Sys2Proof.Machine

variable (s t : State)

/-! ## PALBUILD -/

@[simp] theorem palrom_length (P : Params) : (palrom P).length = 256 := by simp [palrom]

/-- The elements of `PALROM` are the parameter's colours (R41). -/
theorem palrom_getElem (P : Params) (i : Nat) (h : i < 256) : (palrom P)[i]? = some (romWord P.palRgb[i]) := by
  simp [palrom, h]

/-- The bits of a `PALROM` element (R41). -/
theorem romWord_getLsbD (c : Rgb) (k : Nat) :
    (romWord c).getLsbD k =
      if k < 8 then c.b.getLsbD k else if k - 8 < 8 then c.g.getLsbD (k - 8) else c.r.getLsbD (k - 8 - 8) := by
  refine (BitVec.getLsbD_append (x := c.r ++ c.g) (y := c.b)).trans ?_
  split
  · rfl
  · exact BitVec.getLsbD_append (x := c.r) (y := c.g)

/-- The LUT entry of a colour is its `pack565` (R110, R111). -/
theorem lutEntry_romWord (c : Rgb) : lutEntry (romWord c) = pack565 c.r c.g c.b := by
  unfold lutEntry
  congr 1
  · refine BitVec.eq_of_getLsbD_eq fun k hk => ?_
    have hk : k < 8 := hk
    simp [romWord_getLsbD, hk, show ¬ (16 + k < 8) by omega, show ¬ (16 + k - 8 < 8) by omega,
      show 16 + k - 8 - 8 = k by omega]
  · refine BitVec.eq_of_getLsbD_eq fun k hk => ?_
    have hk : k < 8 := hk
    simp [romWord_getLsbD, hk, show ¬ (8 + k < 8) by omega]
  · refine BitVec.eq_of_getLsbD_eq fun k hk => ?_
    have hk : k < 8 := hk
    simp [romWord_getLsbD, hk]

theorem buildLut_eq : buildLut s = s.commitLut (s.lut.writeRun 0 ((palrom s.cfg).map lutEntry)) := rfl

/-! ## BLIT -/

/-- What writing rows leaves at a pixel of a row: columns up to the stride never meet another row. -/
theorem read_writeRows (P : Params) (m : Mem 16) (r0 : Nat) (rows : List (List Color))
    (hw : ∀ row ∈ rows, row.length ≤ P.fbStride) (r c : Nat) (hr : r < rows.length) (row : List Color)
    (hrow : rows[r]? = some row) (hc : c < row.length) :
    (writeRows P m r0 rows).read (fbIndex P (r0 + r) c) = row[c]? := by
  induction rows generalizing r0 r with
  | nil => simp at hr
  | cons a rows ih =>
    have ha := hw a List.mem_cons_self
    simp only [writeRows]
    cases r with
    | zero =>
      simp only [List.getElem?_cons_zero, Option.some.injEq] at hrow
      subst hrow
      simpa [fbIndex] using Mem.read_writeRun_mem (writeRows P m (r0 + 1) rows) (fbIndex P r0 0) a c hc
    | succ r =>
      rw [Mem.read_writeRun_of_not_mem]
      · rw [show r0 + (r + 1) = r0 + 1 + r by omega]
        exact ih (r0 + 1) (fun x hx => hw x (List.mem_cons_of_mem _ hx)) r (by simpa using hr) (by simpa using hrow)
      · right
        simp only [fbIndex, Nat.add_mul, Nat.add_zero]
        have : 0 ≤ r * P.fbStride := Nat.zero_le _
        omega

/-- An element that is no pixel of the rows reads as before. -/
theorem read_writeRows_of_not_mem (P : Params) (m : Mem 16) (r0 : Nat) (rows : List (List Color)) (a : Nat)
    (h : ∀ r row, rows[r]? = some row → ∀ c < row.length, a ≠ fbIndex P (r0 + r) c) :
    (writeRows P m r0 rows).read a = m.read a := by
  induction rows generalizing r0 with
  | nil => rfl
  | cons row rows ih =>
    simp only [writeRows]
    rw [Mem.read_writeRun_of_not_mem, ih (r0 + 1)]
    · intro r row' hrow' c hc
      have := h (r + 1) row' (by simpa using hrow') c hc
      rwa [show r0 + (r + 1) = r0 + 1 + r by omega] at this
    · by_contra hcon
      have h0 := h 0 row (by simp) (a - fbIndex P r0 0) (by omega)
      simp only [fbIndex] at h0 hcon
      apply h0; simp only [Nat.add_zero] at hcon ⊢; omega

theorem writeRows_wf (P : Params) (m : Mem 16) (r0 : Nat) (rows : List (List Color)) (h : m.wf) :
    (writeRows P m r0 rows).wf := by
  induction rows generalizing r0 with
  | nil => exact h
  | cons row rows ih => exact Mem.wf_writeRun _ _ _ (ih (r0 + 1))

/-- Rows no wider than the stride and no more than the height stay inside the framebuffer (R124). -/
theorem writeRows_below (P : Params) (m : Mem 16) (r0 : Nat) (rows : List (List Color))
    (hw : ∀ row ∈ rows, row.length ≤ P.fbStride) (hr : r0 + rows.length ≤ P.fbHeight)
    (h : m.below (P.fbStride * P.fbHeight)) : (writeRows P m r0 rows).below (P.fbStride * P.fbHeight) := by
  induction rows generalizing r0 with
  | nil => exact h
  | cons row rows ih =>
    simp only [List.length_cons] at hr
    refine Mem.below_writeRun _ _ _ _ (ih (r0 + 1) (fun x hx => hw x (List.mem_cons_of_mem _ hx)) (by omega)) ?_
    have h1 := hw row List.mem_cons_self
    have h2 : (r0 + 1) * P.fbStride ≤ P.fbHeight * P.fbStride := Nat.mul_le_mul_right _ (by omega)
    rw [Nat.mul_comm P.fbStride]
    simp only [fbIndex, Nat.add_mul] at h2 ⊢
    omega

/-- A pixel is the LUT's entry for the surface's index (R122). -/
theorem blitPixel_eq_ok (r c : Nat) (p : Color) :
    blitPixel s r c = .ok p ↔
      ∃ idx, s.surf.read (surfIndex s r c) = some idx ∧ s.lut.read idx.toNat = some p := by
  unfold blitPixel
  cases h : s.surf.read (surfIndex s r c) with
  | none => simp [element, h]
  | some idx => simp [element, h]; cases s.lut.read idx.toNat <;> simp

/-- The rows a successful blit computes: `H` rows of `W` pixels. -/
theorem blitRows_ok (rows : List (List Color)) (h : blitRows s = .ok rows) :
    rows.length = s.visH.toNat ∧ ∀ r < s.visH.toNat, ∃ row, rows[r]? = some row ∧ row.length = s.visW.toNat ∧
      ∀ c < s.visW.toNat, ∃ p, blitPixel s r c = .ok p ∧ row[c]? = some p := by
  obtain ⟨hlen, hget⟩ := collect_ok _ _ _ h
  simp only [List.length_range] at hlen hget
  refine ⟨hlen, fun r hr => ?_⟩
  obtain ⟨row, hrow, hr'⟩ := hget r hr
  simp only [List.getElem_range] at hrow
  obtain ⟨hl, hg⟩ := collect_ok _ _ _ hrow
  simp only [List.length_range] at hl hg
  refine ⟨row, hr', hl, fun c hc => ?_⟩
  simpa using hg c hc

/-- What a successful blit leaves. -/
theorem blitEffect_ok (h : blitEffect s = .ok t) :
    ∃ rows, blitRows s = .ok rows ∧ t = s.commitBlit (writeRows s.cfg s.fb 0 rows) s.visW s.visH := by
  unfold blitEffect at h
  split at h
  · simp at h
  · exact ⟨_, ‹_›, by simp_all⟩

/-- A blit whose every pixel can be read succeeds. -/
theorem blitRows_total (h : ∀ r < s.visH.toNat, ∀ c < s.visW.toNat, ∃ p, blitPixel s r c = .ok p) :
    ∃ rows, blitRows s = .ok rows := by
  refine collect_total _ _ fun r hr => collect_total _ _ fun c hc => ?_
  exact h r (by simpa using hr) c (by simpa using hc)

/-! ## RESAMPLE -/

theorem resampleEffect_ok (ch : Channel) (h : resampleEffect ch s = .ok t) :
    ∃ vs, resampled ch s = .ok vs ∧
      t = (s.latchTlen (BitVec.ofNat 32 (targetLength s))).commitRs ch ((rsMem ch s).writeRun 0 vs) := by
  unfold resampleEffect at h
  split at h
  · simp at h
  · exact ⟨_, ‹_›, by simp_all⟩

/-- The target length is a 32-bit value. -/
theorem targetLength_lt : targetLength s < 2 ^ 32 :=
  lt_of_le_of_lt (Nat.div_le_self _ _) s.outRate.isLt

/-- What the checks of `RESAMPLE` guarantee when they pass (R137). -/
theorem checkResample_none (ch : Channel) (h : checkResample ch s = none) :
    s.chipFreq.toNat ≠ 0 ∧ (s.tlenValid = true → targetLength s = s.tlen.toNat) ∧
      (s.tlenValid = false → targetLength s ≤ s.cfg.tlenMax) ∧ (srcLen ch s).toNat ≤ s.cfg.maxSrc ∧
      (0 < targetLength s →
        lastIndex (targetLength s) s.outRate.toNat (sourceRate s) < (srcLen ch s).toNat) := by
  unfold checkResample at h
  repeat' (split at h; · simp at h)
  simp only [not_and, not_lt, not_le, ne_eq, Decidable.not_not] at *
  exact ⟨‹_›, ‹_›, ‹_›, ‹_›, ‹_›⟩

/-- What the checks of `BLIT` guarantee when they pass (R121). -/
theorem checkBlit_none (h : checkBlit s = none) :
    s.lutValid = true ∧ s.visW.toNat ≤ s.cfg.fbStride ∧ s.visH.toNat ≤ s.cfg.fbHeight ∧
      s.dispTop.toNat ≤ s.visTop.toNat ∧ blitBase s + s.visW.toNat * s.visH.toNat ≤ s.cfg.surfSize := by
  unfold checkBlit at h
  repeat' (split at h; · simp at h)
  simp only [not_or, not_lt, Bool.not_eq_false] at *
  exact ⟨‹_›, (‹_ ∧ _›).1, (‹_ ∧ _›).2, ‹_›, ‹_›⟩

/-! ## MIX and WIDEN -/

theorem mixEffect_ok (h : mixEffect s = .ok t) :
    ∃ vs, collect (mixSample s) (List.range s.tlen.toNat) = .ok vs ∧ t = s.commitMix (s.mixb.writeRun 0 vs) := by
  unfold mixEffect at h
  split at h
  · simp at h
  · exact ⟨_, ‹_›, by simp_all⟩

theorem widenEffect_ok (h : widenEffect s = .ok t) :
    ∃ vs, collect (widenSample s) (List.range s.tlen.toNat) = .ok vs ∧ t = s.commitOut (s.out.writeRun 0 vs) := by
  unfold widenEffect at h
  split at h
  · simp at h
  · exact ⟨_, ‹_›, by simp_all⟩

theorem checkMix_none (h : checkMix s = none) :
    s.rs0Valid = true ∧ (s.auxPresent = true → s.rs1Valid = true) := by
  unfold checkMix at h
  repeat' (split at h; · simp at h)
  simp_all

theorem checkWiden_none (h : checkWiden s = none) : s.mixValid = true := by
  unfold checkWiden at h
  split at h <;> simp_all

/-! ## Every command -/

/-- The check of a command (R121, R137, R155, R165); `PALBUILD` has none (R110). -/
def commandCheck : Instr → State → Option ErrCode
  | .palbuild => fun _ => none
  | .blit => checkBlit
  | .resample ch => checkResample ch
  | .mix => checkMix
  | .widen => checkWiden

/-- The effect of a command. -/
def commandEffect : Instr → State → Except Fault State
  | .palbuild => fun s => .ok (buildLut s)
  | .blit => blitEffect
  | .resample ch => resampleEffect ch
  | .mix => mixEffect
  | .widen => widenEffect

/-- Every command is its check and its effect in the common frame. -/
theorem exec_eq_runCommand (i : Instr) : exec i s = runCommand i (commandCheck i) (commandEffect i) s := by
  cases i <;> rfl

/-- Everything a command that answers a next state can have done. -/
theorem exec_next (i : Instr) (h : exec i s = .next t) :
    (s.faulted = true ∧ t = s) ∨
    (s.faulted = false ∧ ∃ c, commandCheck i s = some c ∧ t = s.withFaultRecord c.code (encode i)) ∨
    (s.faulted = false ∧ commandCheck i s = none ∧ commandEffect i s = .ok t) := by
  rw [exec_eq_runCommand] at h
  exact runCommand_next _ _ _ _ _ h

end Sys2Proof.Machine
end

