-- ==== Sys2Proof/Laws/PerInstr.lean ====
section
/-! SUPPORT. Families of statements about each command as syntax, one lemma per constructor. -/

namespace Sys2Proof.Laws

/-- The fields of the command are those of a legal word, and its word has every bit from 9 up clear (R91, R92). -/
def LegalWord.Statement (i : Instr) : Prop := i.wellFormed = true ∧ (encode i).toNat < 512

theorem LegalWord.palbuild : LegalWord.Statement .palbuild := by unfold LegalWord.Statement; decide

theorem LegalWord.blit : LegalWord.Statement .blit := by unfold LegalWord.Statement; decide

theorem LegalWord.resample (ch : Channel) : LegalWord.Statement (.resample ch) := by
  unfold LegalWord.Statement; cases ch <;> decide

theorem LegalWord.mix : LegalWord.Statement .mix := by unfold LegalWord.Statement; decide

theorem LegalWord.widen : LegalWord.Statement .widen := by unfold LegalWord.Statement; decide

end Sys2Proof.Laws
end

