-- ==== Sys2Proof/Laws/Transactions.lean ====
section
/-! SUPPORT. What one host transaction, and so one step, can do, said once (`Performed`, `step_cases`); the numbers of
registers and spaces; what a register write and a memory write keep. -/

namespace Sys2Proof.Machine

/-! ## Numbers -/

@[simp] theorem Reg.ofNumber_number (r : Reg) : Reg.ofNumber r.number = some r := by cases r <;> rfl

theorem Reg.number_of_ofNumber (n : Word) (r : Reg) (h : Reg.ofNumber n = some r) : r.number = n := by
  have := List.find?_some h
  simpa using this

theorem Reg.number_injective (r q : Reg) (h : r.number = q.number) : r = q := by
  have := congrArg Reg.ofNumber h
  simpa using this

@[simp] theorem Space.ofId_id (space : Space) : Space.ofId space.id = some space := by cases space <;> rfl

theorem Space.id_of_ofId (k : Nat) (space : Space) (h : Space.ofId k = some space) : space.id = k := by
  unfold Space.ofId at h
  split at h <;> simp at h <;> subst h <;> rfl

/-- What the check of a memory transaction guarantees when it passes (R181). -/
theorem checkMem_ok (P : Params) (kind : AccessKind) (sp i : Nat) (space : Space)
    (h : checkMem P kind sp i = .ok space) :
    Space.ofId sp = some space ∧ i < spaceSize P space ∧ (kind = .write → hostWritable space = true) := by
  unfold checkMem at h
  split at h
  · simp at h
  · repeat' (split at h; · simp at h)
    simp only [Except.ok.injEq] at h
    subst h
    refine ⟨‹_›, by omega, fun hk => ?_⟩
    by_contra hw
    exact ‹¬(kind = .write ∧ hostWritable _ = false)› ⟨hk, by simpa using hw⟩

/-! ## The bits of STATUS -/

/-- A flag concatenated below other bits is bit 0. -/
theorem getLsbD_append_flag_zero {w : Nat} (x : BitVec w) (b : Bool) : (x ++ BitVec.ofBool b).getLsbD 0 = b := by
  simp only [BitVec.getLsbD_append, BitVec.getLsbD_ofBool]
  simp

/-- The other bits stand one place higher. -/
theorem getLsbD_append_flag_succ {w : Nat} (x : BitVec w) (b : Bool) (k : Nat) :
    (x ++ BitVec.ofBool b).getLsbD (k + 1) = x.getLsbD k := by
  simp only [BitVec.getLsbD_append]
  simp

/-- The reserved bits above `ERRCODE` read as 0 (R25). -/
theorem getLsbD_reserved_append (e : Byte) (k : Nat) : (0#16 ++ e).getLsbD k = e.getLsbD k := by
  rw [BitVec.getLsbD_append]
  by_cases hk : k < 8
  · simp [hk]
  · rw [BitVec.getLsbD_of_ge e k (by omega)]
    simp

theorem statusBits_getLsbD (e : Byte) (a b c d f g h i : Bool) (k : Nat) :
    (0#16 ++ e ++ BitVec.ofBool a ++ BitVec.ofBool b ++ BitVec.ofBool c ++ BitVec.ofBool d ++ BitVec.ofBool f ++
      BitVec.ofBool g ++ BitVec.ofBool h ++ BitVec.ofBool i).getLsbD k =
    if k < 8 then [i, h, g, f, d, c, b, a].getD k false else e.getLsbD (k - 8) := by
  by_cases hk : k < 8
  · rw [if_pos hk]
    interval_cases k <;> simp only [getLsbD_append_flag_succ, getLsbD_append_flag_zero] <;> rfl
  · obtain ⟨j, rfl⟩ : ∃ j, k = j + 8 := ⟨k - 8, by omega⟩
    rw [if_neg hk, Nat.add_sub_cancel]
    simp only [getLsbD_append_flag_succ, getLsbD_reserved_append]

/-- Bit `k` of the `STATUS` view: a flag below 8, a bit of `ERRCODE` from 8 on (R25). -/
theorem statusWord_getLsbD (s : State) (k : Nat) :
    (statusWord s).getLsbD k =
      if k < 8 then
        [s.lutValid, s.videoValid, s.tlenValid, s.rs0Valid, s.rs1Valid, s.mixValid, s.outValid, s.faulted].getD k false
      else s.errCode.getLsbD (k - 8) :=
  statusBits_getLsbD _ _ _ _ _ _ _ _ _ k

/-! ## One transaction -/

/-- What a transaction that answers a next state `u` did in state `s`. -/
inductive Performed (s u : State) : Transaction → Prop
  | ignoredWr (n v : Word) : s.faulted = true → u = s → Performed s u (.wr n v)
  | illegal (w : Word) (e : IllegalCommand) : s.faulted = false → decode w = .error e →
      u = s.withFaultRecord ErrCode.illegalCmd.code w → Performed s u (.wr Reg.cmd.number w)
  | command (w : Word) (i : Instr) : s.faulted = false → decode w = .ok i → exec i s = .next u →
      Performed s u (.wr Reg.cmd.number w)
  | undefinedWr (n v : Word) : s.faulted = false → Reg.ofNumber n = none →
      u = s.withFaultRecord ErrCode.addr.code n → Performed s u (.wr n v)
  | readOnlyWr (r : Reg) (v : Word) : s.faulted = false → regAccess r = .ro →
      u = s.withFaultRecord ErrCode.access.code r.number → Performed s u (.wr r.number v)
  | wroteReg (r : Reg) (v : Word) : s.faulted = false → regAccess r = .rw → u = regWrite s r v →
      Performed s u (.wr r.number v)
  | readReg (r : Reg) : u = s.withReply (regRead s r) → Performed s u (.rd r.number)
  | undefinedRd (n : Word) : Reg.ofNumber n = none → u = (s.withReply 0).takeFault .addr n → Performed s u (.rd n)
  | ignoredWm (sp : Nat) (i v : Word) : s.faulted = true → u = s → Performed s u (.wm sp i v)
  | failedWm (sp : Nat) (i v : Word) (c : ErrCode) : s.faulted = false → checkMem s.cfg .write sp i.toNat = .error c →
      u = s.withFaultRecord c.code i → Performed s u (.wm sp i v)
  | wroteMem (space : Space) (i v : Word) : s.faulted = false → hostWritable space = true →
      i.toNat < spaceSize s.cfg space → u = spaceWrite s space i.toNat v → Performed s u (.wm space.id i v)
  | failedRm (sp : Nat) (i : Word) (c : ErrCode) : checkMem s.cfg .read sp i.toNat = .error c →
      u = (s.withReply 0).takeFault c i → Performed s u (.rm sp i)
  | readMem (space : Space) (i : Word) : i.toNat < spaceSize s.cfg space →
      u = s.withReply (hostElement s space i.toNat) → Performed s u (.rm space.id i)
  | reset : u = s.afterReset → Performed s u .reset

theorem performed_writeRegister (s u : State) (n v : Word) (hf : s.faulted = false)
    (h : writeRegister s n v = .next u) : Performed s u (.wr n v) := by
  unfold writeRegister at h
  split at h
  · subst n
    unfold issueCommand at h
    split at h
    · rw [State.takeFault_of_not_faulted s _ _ hf] at h
      exact .illegal v _ hf ‹_› (by simp_all)
    · exact .command v _ hf ‹_› h
  · rename_i hn
    simp only [Host.Outcome.next.injEq] at h
    subst h
    cases hr : Reg.ofNumber n with
    | none =>
      refine .undefinedWr n v hf hr ?_
      simp [hostWriteReg, hr, State.takeFault_of_not_faulted s _ _ hf]
    | some r =>
      obtain rfl := Reg.number_of_ofNumber n r hr
      cases ha : regAccess r with
      | rw => exact .wroteReg r v hf ha (by simp [hostWriteReg, ha])
      | ro => exact .readOnlyWr r v hf ha (by simp [hostWriteReg, ha, State.takeFault_of_not_faulted s _ _ hf])
      | wo => cases r <;> first | exact absurd rfl hn | simp [regAccess] at ha

/-- Everything a transaction that answers a next state can have done. -/
theorem performed_of_transact (t : Transaction) (s u : State) (h : transact t s = .next u) : Performed s u t := by
  cases t with
  | wr n v =>
    simp only [transact] at h
    split at h
    · exact .ignoredWr n v ‹_› (by simp_all)
    · exact performed_writeRegister s u n v (by simp_all) h
  | rd n =>
    simp only [transact, Host.Outcome.next.injEq] at h
    subst h
    cases hr : Reg.ofNumber n with
    | none => exact .undefinedRd n hr (by simp [hostReadReg, hr])
    | some r =>
      obtain rfl := Reg.number_of_ofNumber n r hr
      exact .readReg r (by simp [hostReadReg])
  | wm sp i v =>
    simp only [transact] at h
    split at h
    · exact .ignoredWm sp i v ‹_› (by simp_all)
    · have hf : s.faulted = false := by simp_all
      simp only [Host.Outcome.next.injEq] at h
      subst h
      cases hc : checkMem s.cfg .write sp i.toNat with
      | error c => exact .failedWm sp i v c hf hc (by simp [hostWriteMem, hc, State.takeFault_of_not_faulted s _ _ hf])
      | ok space =>
        obtain ⟨hid, hi, hw⟩ := checkMem_ok _ _ _ _ _ hc
        obtain rfl := Space.id_of_ofId sp space hid
        exact .wroteMem space i v hf (hw rfl) hi (by simp [hostWriteMem, hc])
  | rm sp i =>
    simp only [transact, Host.Outcome.next.injEq] at h
    subst h
    cases hc : checkMem s.cfg .read sp i.toNat with
    | error c => exact .failedRm sp i c hc (by simp [hostReadMem, hc])
    | ok space =>
      obtain ⟨hid, hi, -⟩ := checkMem_ok _ _ _ _ _ hc
      obtain rfl := Space.id_of_ofId sp space hid
      exact .readMem space i hi (by simp [hostReadMem, hc])
  | reset =>
    simp only [transact, Host.Outcome.next.injEq] at h
    exact .reset h.symm

/-! ## One step -/

theorem step_of_pending (s : State) (t : Transaction) (rest : List Transaction) (h : s.pending = t :: rest) :
    step s = transact t (s.dequeue rest) := by
  simp [step, h]

theorem step_idle (s : State) (h : s.pending = []) : step s = .next s := by
  simp [step, h]

/-- Everything a step that answers a next state can have done. -/
theorem step_cases (s u : State) (h : step s = .next u) :
    (s.pending = [] ∧ u = s) ∨ ∃ t rest, s.pending = t :: rest ∧ Performed (s.dequeue rest) u t := by
  cases hp : s.pending with
  | nil => exact .inl ⟨rfl, by simpa [step_idle s hp, eq_comm] using h⟩
  | cons t rest =>
    rw [step_of_pending s t rest hp] at h
    exact .inr ⟨t, rest, rfl, performed_of_transact _ _ _ h⟩

/-- When a step stops the model: a command, and its own stop. -/
theorem step_fault (s : State) (e : Fault) (h : step s = .fault e) :
    ∃ w i rest, s.pending = .wr Reg.cmd.number w :: rest ∧ decode w = .ok i ∧ exec i (s.dequeue rest) = .fault e := by
  cases hp : s.pending with
  | nil => simp [step_idle s hp] at h
  | cons t rest =>
    rw [step_of_pending s t rest hp] at h
    cases t with
    | wr n v =>
      simp only [transact] at h
      split at h
      · simp at h
      · unfold writeRegister at h
        split at h
        · subst n
          unfold issueCommand at h
          split at h
          · simp at h
          · exact ⟨v, _, rest, rfl, ‹_›, h⟩
        · simp at h
    | rd n => simp [transact] at h
    | wm sp i v => simp only [transact] at h; split at h <;> simp at h
    | rm sp i => simp [transact] at h
    | reset => simp [transact] at h

/-! ## What a register write and a memory write keep -/

variable (s : State)

/-- A register write keeps the nine spaces, the flags, the fault record, the results and the parameters. -/
theorem regWrite_keeps (r : Reg) (v : Word) :
    (regWrite s r v).cfg = s.cfg ∧ (regWrite s r v).videoW = s.videoW ∧ (regWrite s r v).videoH = s.videoH ∧
      (regWrite s r v).tlen = s.tlen ∧ (regWrite s r v).lutValid = s.lutValid ∧
      (regWrite s r v).videoValid = s.videoValid ∧ (regWrite s r v).tlenValid = s.tlenValid ∧
      (regWrite s r v).rs0Valid = s.rs0Valid ∧ (regWrite s r v).rs1Valid = s.rs1Valid ∧
      (regWrite s r v).mixValid = s.mixValid ∧ (regWrite s r v).outValid = s.outValid ∧
      (regWrite s r v).faulted = s.faulted ∧ (regWrite s r v).errCode = s.errCode ∧
      (regWrite s r v).errInfo = s.errInfo ∧ (regWrite s r v).lut = s.lut ∧ (regWrite s r v).surf = s.surf ∧
      (regWrite s r v).fb = s.fb ∧ (regWrite s r v).src0 = s.src0 ∧ (regWrite s r v).src1 = s.src1 ∧
      (regWrite s r v).rs0 = s.rs0 ∧ (regWrite s r v).rs1 = s.rs1 ∧ (regWrite s r v).mixb = s.mixb ∧
      (regWrite s r v).out = s.out ∧ (regWrite s r v).pending = s.pending ∧ (regWrite s r v).reply = s.reply ∧
      (regWrite s r v).epoch = s.epoch := by
  cases r <;> simp [regWrite]

/-- A host memory write changes nothing but one element of one of the four writable spaces (R61, R183). -/
theorem spaceWrite_cases (space : Space) (i : Nat) (v : Word) (h : hostWritable space = true) :
    (space = .surf ∧ spaceWrite s space i v = { s with surf := s.surf.write i (v.truncate 8) }) ∨
    (space = .fb ∧ spaceWrite s space i v = { s with fb := s.fb.write i (v.truncate 16) }) ∨
    (space = .src0 ∧ spaceWrite s space i v = { s with src0 := s.src0.write i (v.truncate 8) }) ∨
    (space = .src1 ∧ spaceWrite s space i v = { s with src1 := s.src1.write i (v.truncate 8) }) := by
  cases space <;> simp_all [hostWritable, spaceWrite]

/-- A host memory write keeps the canonical form. -/
theorem spaceWrite_memoryWf (space : Space) (i : Nat) (v : Word) (h : s.memoryWf) :
    (spaceWrite s space i v).memoryWf := by
  obtain ⟨h1, h2, h3, h4, h5, h6, h7, h8, h9⟩ := h
  cases space
  case surf => exact ⟨h1, Mem.wf_write _ _ _ h2, h3, h4, h5, h6, h7, h8, h9⟩
  case fb => exact ⟨h1, h2, Mem.wf_write _ _ _ h3, h4, h5, h6, h7, h8, h9⟩
  case src0 => exact ⟨h1, h2, h3, Mem.wf_write _ _ _ h4, h5, h6, h7, h8, h9⟩
  case src1 => exact ⟨h1, h2, h3, h4, Mem.wf_write _ _ _ h5, h6, h7, h8, h9⟩
  all_goals exact ⟨h1, h2, h3, h4, h5, h6, h7, h8, h9⟩

/-- The memory right after reset is in canonical form, whatever the parameters. -/
theorem resetOf_memoryWf (P : Params) : (State.resetOf P).memoryWf := by
  simp [State.resetOf, State.memoryWf, Mem.wf]

/-- So is the memory after a `RESET` transaction. -/
theorem afterReset_memoryWf : s.afterReset.memoryWf := by
  simp [State.afterReset, State.resetOf, State.memoryWf, Mem.wf]

/-- Extending a memory law to every reachable state: an invariant that holds at reset, does not depend on the
transactions still to come and is kept by every step holds of every reachable state. -/
theorem Reachable.induct (P : Params) (Inv : State → Prop) (h0 : Inv (State.resetOf P))
    (hp : ∀ s ts, Inv s → Inv { s with pending := ts }) (hs : ∀ s t, Inv s → step s = .next t → Inv t)
    (s : State) (h : Reachable P s) : Inv s := by
  induction h with
  | reset => exact h0
  | issued s ts _ ih => exact hp s _ ih
  | stepped s t _ hst ih => exact hs s t ih hst

end Sys2Proof.Machine
end

