-- ==== Sys2Proof/Tests/Slice0.lean ====
section
/-! SUPPORT. The model's own tests. Expected values are those of spec 95_test_vectors.md, or of the rule a comment names;
the parameters are the test configuration of that file. Each `witness_<Statement>` shows states and operands that meet
the hypotheses of the obligation of that name, at boundary values. -/

namespace Sys2Proof.Tests

open Sys2Proof Sys2Proof.Machine

/-! ## The test configuration and small states -/

def testPalette : List Rgb :=
  [⟨0, 0, 0⟩, ⟨255, 255, 255⟩, ⟨255, 0, 0⟩, ⟨0, 255, 0⟩, ⟨0, 0, 255⟩, ⟨0x12, 0x34, 0x56⟩] ++
    (List.range' 6 250).map (fun i => ⟨BitVec.ofNat 8 i, BitVec.ofNat 8 i, BitVec.ofNat 8 i⟩)

/-- The test configuration of 95_test_vectors.md. -/
def testParams : Params where
  palRgb := ⟨testPalette.toArray, by simp [testPalette]⟩
  fbWidth := 6
  fbStride := 8
  fbHeight := 4
  surfSize := 64
  maxSrc := 16
  tlenMax := 8

/-- The elements 0, 1, ... of an 8-bit space. -/
def bytes (vs : List Nat) : Mem 8 := Mem.writeRun [] 0 (vs.map (BitVec.ofNat 8))

/-- The state after reset. -/
def base : State := State.resetOf testParams

/-- The state after `PALBUILD`. -/
def built : State := buildLut base

/-- A state made ready to blit rows of width `w` and height `h` from a surface whose first `n` elements are 0, 1, 0, 1,
... -/
def withScreen (s : State) (n top w h : Nat) : State :=
  { s with
      surf := bytes ((List.range n).map (· % 2)), visTop := BitVec.ofNat 32 top, visW := BitVec.ofNat 32 w,
      visH := BitVec.ofNat 32 h }

theorem withScreen_lut (s : State) (n top w h : Nat) : (withScreen s n top w h).lut = s.lut := rfl

theorem withScreen_cfg (s : State) (n top w h : Nat) : (withScreen s n top w h).cfg = s.cfg := rfl

/-- The same after `PALBUILD`. -/
def screen (n top w h : Nat) : State := withScreen built n top w h

/-- Rates and two streams: `SRC0[i]` = 10 + i, `SRC1[i]` = 20 + i, `n` elements of each. -/
def rates (o f lines n : Nat) : State :=
  { base with
      outRate := BitVec.ofNat 32 o, chipFreq := BitVec.ofNat 32 f, scanlines := BitVec.ofNat 32 lines,
      src0 := bytes ((List.range n).map (10 + ·)), src0Len := BitVec.ofNat 32 n,
      src1 := bytes ((List.range n).map (20 + ·)), src1Len := BitVec.ofNat 32 n }

/-- Both streams resampled to three samples, the mix not yet made. -/
def streams (aux : Bool) (a b : List Nat) : State :=
  { rates 6 2 3 3 with
      tlen := 3, tlenValid := true, rs0 := bytes a, rs0Valid := true, rs1 := bytes b, rs1Valid := aux,
      auxPresent := aux }

/-- The mix made. -/
def mixed (vs : List Nat) : State := { streams false vs [] with mixb := bytes vs, mixValid := true }

/-- The state with the transactions the host has issued. -/
def issued (s : State) (ts : List Transaction) : State := { s with pending := ts }

/-- The outcome is a next state with a property. -/
def ends (o : Host.Outcome State Fault Refusal) (p : State → Bool) : Bool :=
  match o with
  | .next t => p t
  | .fault _ => false
  | .refused _ => false

/-- The outcome is a stop of the model. -/
def stops (o : Host.Outcome State Fault Refusal) (f : Fault) : Bool :=
  match o with
  | .next _ => false
  | .fault e => e == f
  | .refused _ => false

theorem next_of (o : Host.Outcome State Fault Refusal) (p : State → Bool) (h : ends o p = true) :
    ∃ t, o = .next t ∧ p t = true := by
  cases o with
  | next t => exact ⟨t, rfl, h⟩
  | fault e => simp [ends] at h
  | refused r => simp [ends] at h

theorem fault_of (o : Host.Outcome State Fault Refusal) (f : Fault) (h : stops o f = true) : o = .fault f := by
  cases o with
  | next t => simp [stops] at h
  | fault e => simpa [stops] using h
  | refused r => simp [stops] at h

theorem written_of {width : Nat} (m : Mem width) (n : Nat) (h : ((List.range n).all fun i => (m.read i).isSome) = true) :
    m.writtenBelow n := by
  intro i hi
  have := List.all_eq_true.1 h i (by simpa using hi)
  exact Option.isSome_iff_exists.1 this

theorem illegal_of (w : Word) (e : IllegalCommand) (h : decode w = .error e) : ∀ i, decode w ≠ .ok i := by
  intro i hi
  rw [h] at hi
  cases hi

/-! ## Ill-formed fields are refused, each check by its name (R91, R94) -/

theorem test_reserved_bit_refused :
    (CommandFields.mk 1 0 0x01).reservedClear = false ∧ (CommandFields.mk 1 0 0x01).wellFormed = false := by decide

theorem test_unknown_operation_refused :
    (CommandFields.mk 0 0 0x00).operationKnown = false ∧ (CommandFields.mk 0 0 0x06).wellFormed = false := by decide

theorem test_channel_bit_refused :
    (CommandFields.mk 0 1 0x02).channelAllowed = false ∧ (CommandFields.mk 0 1 0x02).wellFormed = false := by decide

/-! ## Decoding: the words of R92, written out bit by bit as {RSV[22:0], CH, OP[7:0]} -/

theorem test_decode_palbuild : decode 0b00000000000000000000000_0_00000001 = .ok .palbuild := by decide
theorem test_decode_blit : decode 0b00000000000000000000000_0_00000010 = .ok .blit := by decide
theorem test_decode_resample0 : decode 0b00000000000000000000000_0_00000011 = .ok (.resample .primary) := by decide
theorem test_decode_resample1 : decode 0b00000000000000000000000_1_00000011 = .ok (.resample .auxiliary) := by decide
theorem test_decode_mix : decode 0b00000000000000000000000_0_00000100 = .ok .mix := by decide
theorem test_decode_widen : decode 0b00000000000000000000000_0_00000101 = .ok .widen := by decide

/-- V6.2 to V6.6. -/
theorem test_decode_illegal :
    decode 0x00000000 = .error (.unknownOperation 0x00) ∧ decode 0x00000006 = .error (.unknownOperation 0x06) ∧
      decode 0x00000102 = .error (.channelBit 0x02) ∧ decode 0x00000203 = .error (.reservedBits 1) ∧
      decode 0x80000001 = .error (.reservedBits 0x400000) := by decide

/-- A table row's bits through the host's entry points: `RESAMPLE 1` is 0x103. -/
theorem test_decode_table_word :
    decodeTableWord 32 0x103 = some (.resample .auxiliary) ∧ decodeTableWord 32 0x102 = none ∧
      (base.withFetchWord 32 0x103).pending = [.wr 0x00 0x00000103] := by decide +kernel

/-! ## The commands, one step each -/

/-- V1.6, V1.8, V1.10, V1.12. -/
theorem test_pack565 :
    pack565 0x12 0x34 0x56 = 0x11AA ∧ pack565 0x08 0x04 0x08 = 0x0821 ∧ pack565 0xF7 0xFB 0xF7 = 0xF7DE ∧
      pack565 0xAB 0xCD 0xEF = 0xAE7D := by decide

/-- V6.1 and section 2.1: the LUT of the test palette. -/
theorem test_palbuild :
    ends (step (issued base [.wr 0x00 0x00000001])) (fun t =>
      t.lut.read 2 == some 0xF800 && t.lut.read 5 == some 0x11AA && t.lut.read 7 == some 0x0020 &&
      t.lut.read 0x80 == some 0x8410 && t.lut.read 255 == some 0xFFFF && statusWord t == 0x00000001) = true := by
  decide +kernel

/-- P2: base 6, the row pitch is the width, the framebuffer pitch the stride; `FB[3]` stays unwritten. -/
theorem test_blit_offset :
    ends (exec .blit
        { built with surf := bytes [9, 9, 9, 9, 9, 9, 2, 3, 4, 5, 1, 0, 7, 7], dispTop := 10, visTop := 12, visLeft := 3,
                     visW := 3, visH := 2 }) (fun t =>
      t.fb == [(0, 0xF800), (1, 0x07E0), (2, 0x001F), (8, 0x11AA), (9, 0xFFFF), (10, 0x0000)] &&
      t.videoW == 3 && t.videoH == 2 && statusWord t == 0x00000003) = true := by decide +kernel

/-- V2.7: `VIS_TOP < DISP_TOP` faults even with a zero area. -/
theorem test_blit_range_fault :
    ends (exec .blit { built with dispTop := 5, visTop := 4 }) (fun t =>
      statusWord t == 0x00000581 && t.errInfo == 0x00000002 && !t.videoValid) = true := by decide +kernel

/-- P3, V3.1: indices 1, 3, 5, 7. -/
theorem test_resample0 :
    ends (exec (.resample .primary) (rates 8 2 8 8)) (fun t =>
      t.rs0 == [(0, 11), (1, 13), (2, 15), (3, 17)] && t.rs1 == [] && t.tlen == 4 &&
      statusWord t == 0x0000000C) = true := by decide +kernel

/-- V3.26 with `SRC1[i]` = 20 + i. -/
theorem test_resample1 :
    ends (exec (.resample .auxiliary) (rates 8 2 8 8)) (fun t =>
      t.rs1 == [(0, 21), (1, 23), (2, 25), (3, 27)] && t.rs0 == [] && statusWord t == 0x00000014) = true := by
  decide +kernel

/-- V3.3, V3.4, V3.5, V3.9. -/
theorem test_resample_indices :
    sourceIndices 3 3 2 = [0, 1, 1] ∧ sourceIndices 3 10 15 = [1, 2, 4] ∧ sourceIndices 3 7 18 = [2, 5, 7] ∧
      sourceIndices 2 4 0 = [0, 0] := by decide +kernel

/-- P4: V4.1, V4.2, V4.6. -/
theorem test_mix_two_streams :
    ends (exec .mix (streams true [0x00, 0xFF, 0x80] [0x00, 0xFF, 0x7F])) (fun t =>
      t.mixb == [(0, 0x00), (1, 0xFF), (2, 0x7F)] && statusWord t == 0x0000003C) = true := by decide +kernel

/-- R157: with `AUX_PRESENT` = 0 the primary samples pass through, whatever `RS1` holds. -/
theorem test_mix_pass_through :
    ends (exec .mix (streams false [11, 13, 15] [1, 2, 3])) (fun t =>
      t.mixb == [(0, 11), (1, 13), (2, 15)] && statusWord t == 0x0000002C) = true := by decide +kernel

/-- V5.2, V5.5, V5.7. -/
theorem test_widen :
    ends (exec .widen (mixed [0x01, 0x80, 0xFF])) (fun t =>
      t.out == [(0, 0x01000100), (1, 0x80008000), (2, 0xFF00FF00)] && statusWord t == 0x0000006C) = true := by
  decide +kernel

/-- Section 2.5: `WIDEN` from reset. -/
theorem test_widen_sequence_fault :
    ends (exec .widen base) (fun t => statusWord t == 0x00000280 && t.errInfo == 0x00000005) = true := by decide +kernel

/-! ## Host transactions, one step each -/

/-- V6.7, V6.8. -/
theorem test_write_src0 :
    ends (step (issued base [.wm 4 16 1])) (fun t => statusWord t == 0x00000980 && t.errInfo == 0x10) = true ∧
      ends (step (issued base [.wm 4 15 0x1FF])) (fun t => statusWord t == 0 && t.src0 == [(15, 0xFF)]) = true := by
  decide +kernel

/-- V6.9, V6.10, V6.11. -/
theorem test_memory_faults :
    ends (step (issued base [.wm 1 0 1])) (fun t => statusWord t == 0x00000C80 && t.errInfo == 0) = true ∧
      ends (step (issued base [.wm 3 32 1])) (fun t => statusWord t == 0x00000B80 && t.errInfo == 0x20) = true ∧
      ends (step (issued base [.rm 10 5])) (fun t =>
        statusWord t == 0x00000B80 && t.errInfo == 5 && t.reply == some 0) = true := by decide +kernel

/-- V6.12, V6.13, V6.14. -/
theorem test_register_faults :
    ends (step (issued base [.wr 0x01 0])) (fun t => statusWord t == 0x00000C80 && t.errInfo == 1) = true ∧
      ends (step (issued base [.rd 0x03])) (fun t =>
        statusWord t == 0x00000B80 && t.errInfo == 3 && t.reply == some 0) = true ∧
      ends (step (issued base [.wr 0x1E 0])) (fun t => statusWord t == 0x00000B80 && t.errInfo == 0x1E) = true := by
  decide +kernel

/-- V6.15, V6.17, V6.18. -/
theorem test_reads :
    ends (step (issued { base with auxPresent := true } [.rd 0x15])) (fun t => t.reply == some 1) = true ∧
      ends (step (issued base [.wr 0x15 0xFFFFFFFF])) (fun t => t.auxPresent && statusWord t == 0) = true ∧
      ends (step (issued base [.rd 0x19])) (fun t => t.reply == some 8) = true ∧
      ends (step (issued base [.rm 0 5])) (fun t => t.reply == some 0x00123456) = true := by decide +kernel

/-- P5: while FAULTED a write is ignored and a read answers. -/
theorem test_faulted :
    ends (step (issued { base with faulted := true, errCode := 4, errInfo := 2, visW := 9 } [.wr 0x07 4]))
        (fun t => t.visW == 9 && statusWord t == 0x00000480) = true ∧
      ends (step (issued { base with faulted := true, errCode := 4, errInfo := 2, visW := 9 } [.rd 0x07]))
        (fun t => t.reply == some 9) = true ∧
      ends (step (issued { base with faulted := true, errCode := 4, errInfo := 2, visW := 9 } [.reset]))
        (fun t => t.visW == 0 && statusWord t == 0) = true := by decide +kernel

/-- R100: the expansion of `FRAME` without and with the auxiliary stream. -/
theorem test_frame_expansion :
    displayFrame false = [.wr 0 0x00000002, .wr 0 0x00000003, .wr 0 0x00000004, .wr 0 0x00000005] ∧
      audioFrame true = [.wr 0 0x00000003, .wr 0 0x00000103, .wr 0 0x00000004, .wr 0 0x00000005] := by decide

/-- R63: an `OUT` frame for sample `s` reads as the bytes 00, s, 00, s. -/
theorem test_frame_bytes : frameBytes (frame 0xA5) = [0x00, 0xA5, 0x00, 0xA5] := by decide

/-- R240: the commands of a frame come in the order `BLIT`, `RESAMPLE 0`, `MIX`, `WIDEN` (P7). -/
theorem test_frame_order :
    (frameTransactions testParams 0 0 0 4 1 4 [1, 0, 1, 0] [10, 11]).filter (fun t =>
      [issue .blit, issue (.resample .primary), issue .mix, issue .widen].contains t) =
    [issue .blit, issue (.resample .primary), issue .mix, issue .widen] := by decide +kernel

/-- The memory right after reset is in canonical form and empty (R45, R46). -/
theorem test_reset_memory : State.reset.memoryWf ∧ State.reset.surf = [] ∧ State.reset.lut = [] :=
  ⟨resetOf_memoryWf _, rfl, rfl⟩

/-! ## Witnesses: states and operands that meet the hypotheses of the statements -/

theorem resetOf_built_cfg (P : Params) : (buildLut (State.resetOf P)).cfg = P := rfl

theorem screen_cfg (n top w h : Nat) : (screen n top w h).cfg = testParams :=
  (withScreen_cfg built n top w h).trans (resetOf_built_cfg testParams)

theorem resetOf_built_read (P : Params) (i : Nat) (h : i < 256) :
    (buildLut (State.resetOf P)).lut.read i = (palrom P)[i]?.map lutEntry := by
  have hr := Mem.read_writeRun_mem [] 0 ((palrom P).map lutEntry) i (by simpa using h)
  rw [Nat.zero_add] at hr
  exact hr.trans (List.getElem?_map ..)

theorem built_lut_read (i : Nat) (h : i < 256) : built.lut.read i = (palrom testParams)[i]?.map lutEntry :=
  resetOf_built_read testParams i h

theorem built_lut : ∀ i < 256, ∃ p, built.lut.read i = some p := fun i h =>
  ⟨_, (built_lut_read i h).trans (by rw [palrom_getElem _ _ h]; rfl)⟩

theorem screen_lut (n top w h : Nat) : ∀ i < 256, ∃ p, (screen n top w h).lut.read i = some p := by
  unfold screen
  rw [withScreen_lut]
  exact built_lut

/-- The state after `PALBUILD` has the invariant. -/
theorem resetOf_built_invariant (P : Params) : (buildLut (State.resetOf P)).Invariant where
  canonical := by simp [buildLut_eq, State.resetOf, State.commitLut, State.memoryWf, Mem.wf_writeRun]
  inRange := by
    refine ⟨Mem.below_writeRun _ _ _ _ ?_ ?_, ?_, ?_, ?_, ?_, ?_, ?_, ?_, ?_⟩
    all_goals simp [State.resetOf, State.commitLut, buildLut_eq, Mem.below, spaceSize]
  lutBuilt := fun _ => resetOf_built_read P
  lutUnbuilt := fun h => absurd (show true = false from h) (by decide)
  videoFits := by simp [buildLut_eq, State.resetOf, State.commitLut]
  videoUnset := fun _ => ⟨rfl, rfl⟩
  tlenFits := by simp [buildLut_eq, State.resetOf, State.commitLut]
  tlenUnset := fun _ => rfl
  rs0Written := fun h => absurd (show false = true from h) (by decide)
  rs1Written := fun h => absurd (show false = true from h) (by decide)
  mixWritten := fun h => absurd (show false = true from h) (by decide)
  outWritten := fun h => absurd (show false = true from h) (by decide)
  audioBelowTlen := by simp [buildLut_eq, State.resetOf, State.commitLut, Mem.below]
  noRecord := fun _ => ⟨rfl, rfl⟩
  recordCode := fun h => absurd (show false = true from h) (by decide)

theorem built_invariant : built.Invariant := resetOf_built_invariant testParams

/-- So has a state that differs from one with the invariant in the transactions and the size of the rectangle only. -/
theorem invariant_of_rectangle (s : State) (ts : List Transaction) (w h : Word) (hs : s.Invariant) :
    ({ s with pending := ts, visW := w, visH := h } : State).Invariant := by
  obtain ⟨h1, h2, h3, h4, h5, h6, h7, h8, h9, h10, h11, h12, h13, h14, h15⟩ := hs
  exact ⟨h1, h2, h3, h4, h5, h6, h7, h8, h9, h10, h11, h12, h13, h14, h15⟩

theorem invariant_of_issued (s : State) (ts : List Transaction) (hs : s.Invariant) : (issued s ts).Invariant :=
  invariant_of_rectangle s ts s.visW s.visH hs

theorem witness_IllegalWordIsRecordedAndExecutesNothing :
    ∀ w ∈ [0x00000000, 0x00000006, 0x000000FF, 0x00000200, 0x80000001, 0x00000102, 0x00000105],
      (issued base [.wr 0x00 w]).pending = .wr 0x00 w :: [] ∧ (issued base [.wr 0x00 w]).faulted = false ∧
      ∀ i, decode w ≠ .ok i := by
  intro w hw
  refine ⟨rfl, rfl, ?_⟩
  simp only [List.mem_cons, List.not_mem_nil, or_false] at hw
  rcases hw with rfl | rfl | rfl | rfl | rfl | rfl | rfl
  · exact illegal_of _ (.unknownOperation 0x00) (by decide)
  · exact illegal_of _ (.unknownOperation 0x06) (by decide)
  · exact illegal_of _ (.unknownOperation 0xFF) (by decide)
  · exact illegal_of _ (.reservedBits 1) (by decide)
  · exact illegal_of _ (.reservedBits 0x400000) (by decide)
  · exact illegal_of _ (.channelBit 0x02) (by decide)
  · exact illegal_of _ (.channelBit 0x05) (by decide)

theorem witness_StepRunsTheIssuedCommand :
    (issued base [.wr 0x00 0x00000103]).pending = .wr 0x00 0x00000103 :: [] ∧
      decode 0x00000103 = .ok (.resample .auxiliary) := by decide

theorem witness_CmdWriteIssuesItsCommand :
    (issued base [.wr 0x00 0x00000006]).pending = .wr 0x00 0x00000006 :: [] ∧ base.faulted = false ∧
      decode 0x00000006 = .error (.unknownOperation 0x06) ∧ decode 0x00000005 = .ok .widen ∧
      ∃ t, step (issued base [.wr 0x00 0x00000005]) = .next t ∧ t.faulted = true :=
  ⟨rfl, rfl, by decide, by decide, next_of _ (fun t => t.faulted) (by decide +kernel)⟩

theorem witness_IdleBlockKeepsItsState : State.reset.pending = [] := rfl

theorem witness_PalbuildBuildsTheLut : base.faulted = false ∧ { base with faulted := true }.faulted = true := ⟨rfl, rfl⟩

theorem witness_LutIsImmutableUntilReset :
    ((∃ t, exec .palbuild base = .next t ∧ true = true) ∧ (∃ t, exec .palbuild built = .next t ∧ true = true) ∧
      base.cfg = testParams ∧ base.faulted = false ∧ built.faulted = false) ∧
    ((∃ t, step (issued base [.wm 2 0 7]) = .next t ∧ true = true) ∧
      (∀ rest, (issued base [.wm 2 0 7]).pending ≠ .reset :: rest) ∧
      ∀ rest, (issued base [.wm 2 0 7]).pending ≠ .wr 0x00 (encode .palbuild) :: rest) ∧
    (issued built [.wr 0x00 0x00000001]).Invariant ∧ (issued built [.wr 0x00 0x00000001]).lutValid = true ∧
      (∃ t, step (issued built [.wr 0x00 0x00000001]) = .next t ∧ true = true) ∧
      ∀ rest, (issued built [.wr 0x00 0x00000001]).pending ≠ .reset :: rest :=
  ⟨⟨next_of _ (fun _ => true) (by decide +kernel), next_of _ (fun _ => true) (by decide +kernel), rfl, rfl, rfl⟩,
    ⟨next_of _ (fun _ => true) (by decide +kernel), fun rest => by simp [issued], fun rest => by simp [issued]⟩,
    invariant_of_issued _ _ built_invariant, rfl, next_of _ (fun _ => true) (by decide +kernel),
    fun rest => by simp [issued]⟩

/-- V2.10, V2.5, V2.6, V2.7, V2.8. -/
theorem witness_BlitChecksInOrder :
    (base.faulted = false ∧ base.lutValid = false) ∧
    ((screen 64 0 9 1).lutValid = true ∧ testParams.fbStride < (screen 64 0 9 1).visW.toNat) ∧
    ((screen 64 0 4 5).lutValid = true ∧ testParams.fbHeight < (screen 64 0 4 5).visH.toNat) ∧
    ({ screen 64 4 0 0 with dispTop := 5 }.lutValid = true ∧ (screen 64 4 0 0).visW.toNat ≤ testParams.fbStride ∧
      (screen 64 4 0 0).visH.toNat ≤ testParams.fbHeight ∧
      (screen 64 4 0 0).visTop.toNat < { screen 64 4 0 0 with dispTop := 5 }.dispTop.toNat) ∧
    ((screen 64 7 8 2).lutValid = true ∧ (screen 64 7 8 2).visW.toNat ≤ testParams.fbStride ∧
      (screen 64 7 8 2).visH.toNat ≤ testParams.fbHeight ∧
      (screen 64 7 8 2).dispTop.toNat ≤ (screen 64 7 8 2).visTop.toNat ∧
      testParams.surfSize < ((screen 64 7 8 2).visTop.toNat - (screen 64 7 8 2).dispTop.toNat) *
        (screen 64 7 8 2).visW.toNat + (screen 64 7 8 2).visW.toNat * (screen 64 7 8 2).visH.toNat) := by
  decide +kernel

theorem screen_surf (i : Nat) (h : i < 64) : ∃ v, (screen 64 6 8 2).surf.read i = some v :=
  written_of _ 64 (by decide +kernel) i h

/-- V2.9: the last element of the surface is read. -/
theorem witness_BlitCopiesTheVisibleRectangle :
    (screen 64 6 8 2).faulted = false ∧ (screen 64 6 8 2).lutValid = true ∧
    (screen 64 6 8 2).visW.toNat ≤ (screen 64 6 8 2).cfg.fbStride ∧
    (screen 64 6 8 2).visH.toNat ≤ (screen 64 6 8 2).cfg.fbHeight ∧
    (screen 64 6 8 2).dispTop.toNat ≤ (screen 64 6 8 2).visTop.toNat ∧
    ((screen 64 6 8 2).visTop.toNat - (screen 64 6 8 2).dispTop.toNat) * (screen 64 6 8 2).visW.toNat +
      (screen 64 6 8 2).visW.toNat * (screen 64 6 8 2).visH.toNat = (screen 64 6 8 2).cfg.surfSize ∧
    (∀ i < 256, ∃ p, (screen 64 6 8 2).lut.read i = some p) ∧
    (∀ r < (screen 64 6 8 2).visH.toNat, ∀ c < (screen 64 6 8 2).visW.toNat, ∃ idx, (screen 64 6 8 2).surf.read
      (((screen 64 6 8 2).visTop.toNat - (screen 64 6 8 2).dispTop.toNat) * (screen 64 6 8 2).visW.toNat +
        r * (screen 64 6 8 2).visW.toNat + c) = some idx) := by
  refine ⟨rfl, rfl, by decide +kernel, by decide +kernel, by decide +kernel, by decide +kernel, screen_lut _ _ _ _, fun r hr c hc => screen_surf _ ?_⟩
  have e : (screen 64 6 8 2).visH.toNat = 2 ∧ (screen 64 6 8 2).visW.toNat = 8 ∧
      (screen 64 6 8 2).visTop.toNat = 6 ∧ (screen 64 6 8 2).dispTop.toNat = 0 := by decide +kernel
  obtain ⟨e1, e2, e3, e4⟩ := e
  rw [e1] at hr
  rw [e2] at hc
  rw [e2, e3, e4]
  omega

theorem witness_BlitAccessesStayInRange :
    checkBlit (screen 64 6 8 2) = none ∧ 1 < (screen 64 6 8 2).visH.toNat ∧ 7 < (screen 64 6 8 2).visW.toNat ∧
      surfIndex (screen 64 6 8 2) 1 7 = 63 := by decide +kernel

/-- V2.3, and a rectangle of no rows below the surface's last element. -/
theorem witness_BlitOfZeroSizeTouchesNoMemory :
    checkBlit (screen 0 0 0 4) = none ∧ (screen 0 0 0 4).visW = 0 ∧ checkBlit (screen 0 8 8 0) = none ∧
      (screen 0 8 8 0).visH = 0 ∧ blitBase (screen 0 8 8 0) = testParams.surfSize := by decide +kernel

/-- V2.1. -/
theorem witness_BlitEndToEndRow :
    (screen 4 0 4 1).faulted = false ∧ (screen 4 0 4 1).lutValid = true ∧
    (∀ (i : Nat) (h : i < 256), (screen 4 0 4 1).lut.read i = some (pack565 (screen 4 0 4 1).cfg.palRgb[i].r
      (screen 4 0 4 1).cfg.palRgb[i].g (screen 4 0 4 1).cfg.palRgb[i].b)) ∧
    (screen 4 0 4 1).cfg.palRgb[0] = ⟨0, 0, 0⟩ ∧ (screen 4 0 4 1).cfg.palRgb[1] = ⟨255, 255, 255⟩ ∧
    (screen 4 0 4 1).dispTop = 0 ∧ (screen 4 0 4 1).visTop = 0 ∧ (screen 4 0 4 1).visW = 4 ∧
    (screen 4 0 4 1).visH = 1 ∧ 4 ≤ (screen 4 0 4 1).cfg.fbStride ∧ 4 ≤ (screen 4 0 4 1).cfg.surfSize ∧
    (screen 4 0 4 1).surf.read 0 = some 0 ∧ (screen 4 0 4 1).surf.read 1 = some 1 ∧
    (screen 4 0 4 1).surf.read 2 = some 0 ∧ (screen 4 0 4 1).surf.read 3 = some 1 := by
  refine ⟨rfl, rfl, fun i h => ?_, by decide +kernel⟩
  rw [screen_cfg, screen, withScreen_lut, built_lut_read i h, palrom_getElem _ _ h, Option.map_some, lutEntry_romWord]

theorem witness_BlitOfUnwrittenSurfaceStops :
    (screen 63 6 8 2).faulted = false ∧ checkBlit (screen 63 6 8 2) = none ∧
      (∀ i < 256, ∃ p, (screen 63 6 8 2).lut.read i = some p) ∧
      ∃ r < (screen 63 6 8 2).visH.toNat, ∃ c < (screen 63 6 8 2).visW.toNat,
        (screen 63 6 8 2).surf.read (surfIndex (screen 63 6 8 2) r c) = none :=
  ⟨rfl, by decide +kernel, screen_lut _ _ _ _, 1, by decide +kernel, 7, by decide +kernel, by decide +kernel⟩

/-- A state in which the checks of `RESAMPLE` pass has the invariant too. -/
theorem rates_invariant : (rates 8 2 8 8).Invariant where
  canonical := by decide +kernel
  inRange := by decide +kernel
  lutBuilt := fun h => absurd (show false = true from h) (by decide)
  lutUnbuilt := fun _ => rfl
  videoFits := by decide +kernel
  videoUnset := fun _ => ⟨rfl, rfl⟩
  tlenFits := by decide +kernel
  tlenUnset := fun _ => rfl
  rs0Written := fun h => absurd (show false = true from h) (by decide)
  rs1Written := fun h => absurd (show false = true from h) (by decide)
  mixWritten := fun h => absurd (show false = true from h) (by decide)
  outWritten := fun h => absurd (show false = true from h) (by decide)
  audioBelowTlen := by decide +kernel
  noRecord := fun _ => ⟨rfl, rfl⟩
  recordCode := fun h => absurd (show false = true from h) (by decide)

/-- V3.20; V3.24 and the smallest change of the quotient; V3.21 and the smallest length too large; V3.22; V3.23. -/
theorem witness_ResampleChecksInOrder :
    (rates 8 2 8 8).Invariant ∧
    (checkResample .primary (rates 8 2 8 8) = none ∧ 7 ∈ resampleIndices (rates 8 2 8 8)) ∧
    (base.faulted = false ∧ base.chipFreq = 0) ∧
    ({ rates 10 2 8 8 with tlen := 4, tlenValid := true }.tlenValid = true ∧ (rates 10 2 8 8).chipFreq ≠ 0 ∧
      (rates 10 2 8 8).outRate.toNat / (rates 10 2 8 8).chipFreq.toNat ≠ 4) ∧
    ((rates 18 2 8 8).tlenValid = false ∧ (rates 18 2 8 8).chipFreq ≠ 0 ∧
      testParams.tlenMax < (rates 18 2 8 8).outRate.toNat / (rates 18 2 8 8).chipFreq.toNat) ∧
    ((rates 16 2 8 17).chipFreq ≠ 0 ∧ (rates 16 2 8 17).tlenValid = false ∧
      (rates 16 2 8 17).outRate.toNat / (rates 16 2 8 17).chipFreq.toNat = testParams.tlenMax ∧
      testParams.maxSrc < (srcLen .auxiliary (rates 16 2 8 17)).toNat) ∧
    ((rates 8 2 8 7).chipFreq ≠ 0 ∧ (rates 8 2 8 7).tlenValid = false ∧
      (srcLen .primary (rates 8 2 8 7)).toNat ≤ testParams.maxSrc ∧
      (srcLen .primary (rates 8 2 8 7)).toNat = lastIndex 4 8 16) := ⟨rates_invariant, by decide +kernel⟩

theorem witness_SourceIndicesAreTheClosedForm :
    0 < 8 ∧ 2 ≤ 3 ∧ 0 < 4 ∧ (0 < 60 ∧ 60 ≤ 44100 ∧ 0 < 524) ∧ (0 < 5 ∧ 5 ≤ 5 ∧ 0 < 1) := by decide

theorem witness_DecimationTakesExactlyItsIterations :
    0 < 8 ∧ 0 < 4 ∧ (decimate 8 16 11 4 8 0).length = 4 ∧ (decimate 8 16 10 4 8 0).length = 3 := by decide +kernel

/-- First use with the least source that suffices (V3.1), a later use with the latch set, and `T` = 0 (V3.11). -/
theorem witness_ResampleEmitsTheTargetLength :
    (∀ s ∈ [rates 8 2 8 8, { rates 8 2 8 8 with tlen := 4, tlenValid := true }],
      s.faulted = false ∧ s.chipFreq ≠ 0 ∧ 4 = s.outRate.toNat / s.chipFreq.toNat ∧
      (s.tlenValid = true → 4 = s.tlen.toNat) ∧ (s.tlenValid = false → 4 ≤ s.cfg.tlenMax) ∧
      (srcLen .auxiliary s).toNat ≤ s.cfg.maxSrc ∧
      lastIndex 4 s.outRate.toNat (s.chipFreq.toNat * s.scanlines.toNat) + 1 = (srcLen .auxiliary s).toNat ∧
      ∀ k < 4, ∃ v, (srcMem .auxiliary s).read
        (emittedIndex s.outRate.toNat (s.chipFreq.toNat * s.scanlines.toNat) k) = some v) ∧
    (rates 1 2 7 0).outRate.toNat / (rates 1 2 7 0).chipFreq.toNat = 0 ∧ checkResample .primary (rates 1 2 7 0) = none := by
  refine ⟨?_, by decide, by decide +kernel⟩
  have hw : ∀ k < 4, ∃ v, (bytes ((List.range 8).map (20 + ·))).read (emittedIndex 8 16 k) = some v := by
    intro k hk
    refine written_of _ 8 (by decide +kernel) _ ?_
    interval_cases k <;> decide +kernel
  intro s hs
  simp only [List.mem_cons, List.not_mem_nil, or_false] at hs
  rcases hs with rfl | rfl
  · exact ⟨rfl, by decide, by decide, by decide, by decide, by decide, by decide +kernel, hw⟩
  · exact ⟨rfl, by decide, by decide, by decide, by decide, by decide, by decide +kernel, hw⟩

/-- A constant source (V3.7) and an ordinary one. -/
theorem witness_ResampleCopiesSourceElements :
    (∃ t, exec (.resample .auxiliary) (rates 8 2 8 8) = .next t ∧ (!t.faulted) = true) ∧
    ∃ t, exec (.resample .primary) { rates 8 2 8 8 with src0 := bytes [7, 7, 7, 7, 7, 7, 7, 7] } = .next t ∧
      (!t.faulted && t.rs0 == bytes [7, 7, 7, 7]) = true :=
  ⟨next_of _ (fun t => !t.faulted) (by decide +kernel),
    next_of _ (fun t => !t.faulted && t.rs0 == bytes [7, 7, 7, 7]) (by decide +kernel)⟩

theorem witness_AuxiliaryResampleIsThePrimaryOne :
    ∃ t, exec (.resample .primary)
      { rates 8 2 8 8 with src0 := (rates 8 2 8 8).src1, src0Len := (rates 8 2 8 8).src1Len, rs0 := [], rs0Valid := false }
        = .next t ∧ (!t.faulted) = true := next_of _ (fun t => !t.faulted) (by decide +kernel)

theorem witness_ResampleOfUnwrittenSourceStops :
    { rates 8 2 8 7 with src0Len := 8 }.faulted = false ∧ checkResample .primary { rates 8 2 8 7 with src0Len := 8 } = none ∧
      ∃ j ∈ resampleIndices { rates 8 2 8 7 with src0Len := 8 },
        (srcMem .primary { rates 8 2 8 7 with src0Len := 8 }).read j = none :=
  ⟨rfl, by decide +kernel, 7, by decide +kernel, by decide +kernel⟩

/-- Element 8, the first beyond the length, holds another value. -/
theorem witness_ResampleIgnoresElementsBeyondTheLength :
    (∀ j < (rates 8 2 8 8).src0Len.toNat,
      ((rates 8 2 8 8).src0.write 8 0xEE).read j = (rates 8 2 8 8).src0.read j) ∧
    ∃ t, exec (.resample .primary) (rates 8 2 8 8) = .next t ∧ (!t.faulted) = true :=
  ⟨by decide +kernel, next_of _ (fun t => !t.faulted) (by decide +kernel)⟩

theorem witness_MixCombinesTheStreams :
    (streams true [0, 255, 128] [0, 255, 127]).faulted = false ∧
    (streams true [0, 255, 128] [0, 255, 127]).rs0Valid = true ∧
    (streams true [0, 255, 128] [0, 255, 127]).rs1Valid = true ∧
    (streams true [0, 255, 128] [0, 255, 127]).auxPresent = true ∧
    (∀ i < 3, ∃ a, (streams true [0, 255, 128] [0, 255, 127]).rs0.read i = some a) ∧
    (∀ i < 3, ∃ b, (streams true [0, 255, 128] [0, 255, 127]).rs1.read i = some b) ∧
    (streams false [0, 255, 128] []).auxPresent = false ∧ (streams false [0, 255, 128] []).rs0Valid = true :=
  ⟨rfl, rfl, rfl, rfl, written_of _ _ (by decide +kernel), written_of _ _ (by decide +kernel), rfl, rfl⟩

theorem witness_CommandsOutOfSequenceFault :
    (base.faulted = false ∧ base.rs0Valid = false ∧ base.mixValid = false) ∧
    { streams true [1, 2, 3] [] with rs1Valid := false }.auxPresent = true ∧
    { streams true [1, 2, 3] [] with rs1Valid := false }.rs1Valid = false := by decide

theorem witness_FrameHoldsTheSampleInBothLanes : (0x7F : Byte).toNat ≤ 0x7F ∧ 0x80 ≤ (0x80 : Byte).toNat := by decide

theorem witness_WidenProducesTheFrames :
    (mixed [1, 128, 255]).faulted = false ∧ (mixed [1, 128, 255]).mixValid = true ∧
      ∀ i < 3, ∃ v, (mixed [1, 128, 255]).mixb.read i = some v := ⟨rfl, rfl, written_of _ _ (by decide +kernel)⟩

theorem witness_RepeatedCommandChangesNothing :
    (rates 8 2 8 8).memoryWf ∧ ∃ t, exec (.resample .primary) (rates 8 2 8 8) = .next t ∧ (!t.faulted) = true :=
  ⟨by decide +kernel, next_of _ (fun t => !t.faulted) (by decide +kernel)⟩

theorem witness_NoCommandReadsVisLeft :
    (∃ t, exec .blit (screen 64 6 8 2) = .next t ∧ (!t.faulted) = true) ∧
      exec .blit (screen 63 6 8 2) = .fault (.uninit .surf 63) :=
  ⟨next_of _ (fun t => !t.faulted) (by decide +kernel), fault_of _ _ (by decide +kernel)⟩

theorem next_next_of (o : Host.Outcome State Fault Refusal) (f : State → Host.Outcome State Fault Refusal)
    (p : State → Bool) (h : ends o (fun t => ends (f t) p) = true) :
    ∃ t u, o = .next t ∧ f t = .next u ∧ p u = true := by
  obtain ⟨t, ht, hu⟩ := next_of o _ h
  obtain ⟨u, hu, hp⟩ := next_of _ _ hu
  exact ⟨t, u, ht, hu, hp⟩

/-- Ready for a blit and for a resampling at once. -/
def ready : State :=
  { rates 8 2 8 8 with
      lut := built.lut, lutValid := true, surf := bytes [0, 1, 0, 1], visW := 4, visH := 1 }

theorem witness_VideoAndAudioCommandsCommute :
    (∃ t u, exec .blit ready = .next t ∧ exec (.resample .primary) t = .next u ∧ (!u.faulted) = true) ∧
    ∃ t u, exec (.resample .primary) ready = .next t ∧ exec .blit t = .next u ∧ (!u.faulted) = true :=
  ⟨next_next_of _ (exec (.resample .primary)) (fun u => !u.faulted) (by decide +kernel),
    next_next_of _ (exec .blit) (fun u => !u.faulted) (by decide +kernel)⟩

theorem witness_RegisterReadReturnsTheRegister :
    ∀ r ∈ Reg.all, (issued base [.rd r.number]).pending = .rd r.number :: [] := fun _ _ => rfl

theorem witness_CfgRegistersReadTheConstantParameters :
    ∃ t, step (issued base [.reset]) = .next t ∧ true = true := next_of _ (fun _ => true) (by decide +kernel)

theorem witness_RegisterWriteStoresOnlyItsRegister :
    base.faulted = false ∧ (issued base [.wr Reg.auxPresent.number 0xFFFFFFFE]).pending =
      .wr Reg.auxPresent.number 0xFFFFFFFE :: [] ∧
    (issued base [.wr Reg.visW.number 0xFFFFFFFF]).pending = .wr Reg.visW.number 0xFFFFFFFF :: [] := ⟨rfl, rfl, rfl⟩

theorem witness_ReadOnlyRegisterWriteFaults :
    base.faulted = false ∧ (issued base [.wr Reg.cfgTlenMax.number 1]).pending = .wr Reg.cfgTlenMax.number 1 :: [] :=
  ⟨rfl, rfl⟩

theorem witness_UndefinedRegisterFaults :
    base.faulted = false ∧ ∀ n ∈ [(0x03 : Word), 0x0B, 0x0F, 0x17, 0x1E, 0xFFFFFFFF],
      (n.toNat = 0x03 ∨ (0x0B ≤ n.toNat ∧ n.toNat ≤ 0x0F) ∨ n.toNat = 0x17 ∨ 0x1E ≤ n.toNat) ∧
      (issued base [.rd n]).pending = .rd n :: [] ∧ (issued base [.wr n 5]).pending = .wr n 5 :: [] := by
  refine ⟨rfl, fun n hn => ⟨?_, rfl, rfl⟩⟩
  simp only [List.mem_cons, List.not_mem_nil, or_false] at hn
  rcases hn with rfl | rfl | rfl | rfl | rfl | rfl <;> simp

/-- The first index past each space. -/
theorem witness_MemoryTransactionChecksInOrder :
    base.faulted = false ∧ 10 ≤ 10 ∧ testParams.maxSrc ≤ (16 : Word).toNat ∧ testParams.surfSize ≤ (64 : Word).toNat ∧
      testParams.fbStride * testParams.fbHeight ≤ (32 : Word).toNat ∧ 256 ≤ (256 : Word).toNat ∧
      testParams.tlenMax ≤ (8 : Word).toNat ∧
      (issued base [.wm 3 32 1]).pending = .wm 3 32 1 :: [] ∧ (issued base [.rm 9 8]).pending = .rm 9 8 :: [] := by
  decide

/-- The last index of each space. -/
theorem witness_MemoryReadReturnsTheElement :
    (255 : Word).toNat < 256 ∧ built.lut.read (255 : Word).toNat = some 0xFFFF ∧
    (63 : Word).toNat < testParams.surfSize ∧ (screen 64 6 8 2).surf.read (63 : Word).toNat = some 1 ∧
    (31 : Word).toNat < testParams.fbStride * testParams.fbHeight ∧
    { base with fb := [(31, 0xAAAA)] }.fb.read (31 : Word).toNat = some 0xAAAA ∧
    (15 : Word).toNat < testParams.maxSrc ∧ (rates 8 2 8 16).src0.read (15 : Word).toNat = some 25 ∧
    (rates 8 2 8 16).src1.read (15 : Word).toNat = some 35 ∧ (7 : Word).toNat < testParams.tlenMax ∧
    { base with rs0 := [(7, 1)] }.rs0.read (7 : Word).toNat = some 1 ∧
    { base with rs1 := [(7, 2)] }.rs1.read (7 : Word).toNat = some 2 ∧
    { base with mixb := [(7, 3)] }.mixb.read (7 : Word).toNat = some 3 ∧
    { base with out := [(7, 4)] }.out.read (7 : Word).toNat = some 4 ∧
    (issued built [.rm 1 255]).pending = .rm 1 255 :: [] := by decide +kernel

theorem witness_MemoryWriteStoresOneElement :
    base.faulted = false ∧ (issued base [.wm 2 63 0x1FF]).pending = .wm 2 63 0x1FF :: [] ∧
    (63 : Word).toNat < testParams.surfSize ∧ (31 : Word).toNat < testParams.fbStride * testParams.fbHeight ∧
    (15 : Word).toNat < testParams.maxSrc := by decide

theorem witness_ReadAfterWriteReturnsTheStoredBits :
    base.faulted = false ∧ hostWritable .fb = true ∧ (31 : Word).toNat < spaceSize testParams .fb ∧
    (issued base [.wm Space.fb.id 31 0x1AAAA, .rm Space.fb.id 31]).pending =
      .wm Space.fb.id 31 0x1AAAA :: .rm Space.fb.id 31 :: [] := by decide

/-- An unwritten element, and a read that faults. -/
theorem witness_ReadsMayBeRepeated :
    (∃ t, step (issued base [.rm 2 63]) = .next t ∧ (!t.faulted) = true) ∧
    ∃ t, step (issued base [.rd 0x03]) = .next t ∧ t.faulted = true :=
  ⟨next_of _ (fun t => !t.faulted) (by decide +kernel), next_of _ (fun t => t.faulted) (by decide +kernel)⟩

theorem witness_SetRectWritesTheRectangle :
    base.faulted = false ∧ (issued base (setRect 10 12 3 3 2)).pending = setRect 10 12 3 3 2 ++ [] := by decide

/-- The last four elements of the surface. -/
theorem witness_LoadAtFillsTheSurface :
    base.faulted = false ∧ (60 : Word).toNat + [(1 : Word), 2, 3, 4].length = testParams.surfSize ∧
    (issued base (loadAt .surf 60 [1, 2, 3, 4])).pending = loadAt .surf 60 [1, 2, 3, 4] ++ [] := by decide

theorem witness_FaultEntryChangesOnlyTheRecord :
    (issued base [.wr 0x00 0x00000103]).faulted = false ∧
    (∃ t, step (issued base [.wr 0x00 0x00000103]) = .next t ∧ t.faulted = true) ∧
    ∃ t, step (issued base [.rm 9 8]) = .next t ∧ t.faulted = true :=
  ⟨rfl, next_of _ (fun t => t.faulted) (by decide +kernel), next_of _ (fun t => t.faulted) (by decide +kernel)⟩

theorem witness_FaultedBlockIsFrozenUntilReset :
    { base with faulted := true }.faulted = true ∧ (63 : Word).toNat < spaceSize testParams .surf ∧
    Reg.ofNumber 0x1E = none ∧ Space.ofId 9 = some .out ∧ spaceSize testParams .out ≤ (8 : Word).toNat ∧
    (issued { base with faulted := true } [.wr 0x00 1]).pending = .wr 0x00 1 :: [] := by decide

theorem witness_ResetRestoresEveryPieceOfState :
    (issued (screen 64 6 8 2) [.reset]).pending = .reset :: [] := rfl

theorem witness_OnlyResetClearsFlagsRecordAndLatch :
    (∃ t, step (issued (mixed [1, 2, 3]) [.wr 0x00 0x00000005]) = .next t ∧ (!t.faulted) = true) ∧
    (∀ rest, (issued (mixed [1, 2, 3]) [.wr 0x00 0x00000005]).pending ≠ .reset :: rest) ∧
    (mixed [1, 2, 3]).rs0Valid = true ∧ (mixed [1, 2, 3]).mixValid = true ∧ (mixed [1, 2, 3]).tlenValid = true :=
  ⟨next_of _ (fun t => !t.faulted) (by decide +kernel), fun rest => by simp [issued], rfl, rfl, rfl⟩

theorem witness_ValidFlagsAreSetOnlyByTheirCommand :
    base.lutValid = false ∧ (∃ t, step (issued base [.wr 0x00 0x00000001]) = .next t ∧ t.lutValid = true) ∧
    (screen 64 6 8 2).videoValid = false ∧
    (∃ t, step (issued (screen 64 6 8 2) [.wr 0x00 0x00000002]) = .next t ∧ t.videoValid = true) ∧
    (rates 8 2 8 8).tlenValid = false ∧ (rates 8 2 8 8).rs0Valid = false ∧
    (∃ t, step (issued (rates 8 2 8 8) [.wr 0x00 0x00000003]) = .next t ∧ (t.rs0Valid && t.tlenValid) = true) ∧
    (∃ t, step (issued (rates 8 2 8 8) [.wr 0x00 0x00000103]) = .next t ∧ (t.rs1Valid && t.tlenValid) = true) ∧
    (∃ t, step (issued (streams false [1, 2, 3] []) [.wr 0x00 0x00000004]) = .next t ∧ t.mixValid = true) ∧
    ∃ t, step (issued (mixed [1, 2, 3]) [.wr 0x00 0x00000005]) = .next t ∧ t.outValid = true :=
  ⟨rfl, next_of _ (fun t => t.lutValid) (by decide +kernel), rfl, next_of _ (fun t => t.videoValid) (by decide +kernel),
    rfl, rfl, next_of _ (fun t => t.rs0Valid && t.tlenValid) (by decide +kernel),
    next_of _ (fun t => t.rs1Valid && t.tlenValid) (by decide +kernel),
    next_of _ (fun t => t.mixValid) (by decide +kernel), next_of _ (fun t => t.outValid) (by decide +kernel)⟩

theorem witness_StepKeepsMemoryCanonical :
    (issued (rates 8 2 8 8) [.wr 0x00 0x00000003]).memoryWf ∧
      ∃ t, step (issued (rates 8 2 8 8) [.wr 0x00 0x00000003]) = .next t ∧ (t.rs0.length == 4) = true :=
  ⟨by decide +kernel, next_of _ (fun t => t.rs0.length == 4) (by decide +kernel)⟩

theorem witness_StepKeepsBlockInvariant :
    (issued built [.wr 0x07 8]).Invariant ∧ ∃ t, step (issued built [.wr 0x07 8]) = .next t ∧ (t.visW == 8) = true :=
  ⟨invariant_of_issued _ _ built_invariant, next_of _ (fun t => t.visW == 8) (by decide +kernel)⟩

/-- A `BLIT` of one pixel of an unwritten surface. -/
theorem witness_OnlyHostSpacesAreFoundUnwritten :
    ({ built with pending := [.wr 0x00 0x00000002], visW := 1, visH := 1 } : State).Invariant ∧
      step { built with pending := [.wr 0x00 0x00000002], visW := 1, visH := 1 } = .fault (.uninit .surf 0) :=
  ⟨invariant_of_rectangle _ _ _ _ built_invariant, fault_of _ _ (by decide +kernel)⟩

end Sys2Proof.Tests
end

section
/-! PROOFS, 10_state.md. An access to an undefined register number (R32) and the effect of `RESET` (R46), after the
facts they need: which numbers name no register, what a step does with each kind of transaction they issue, what the
registers and spaces read after reset. -/

namespace Sys2Proof.Machine

/-! ## Undefined register numbers -/

/-- The number of a register is not undefined. -/
theorem Reg.number_ne_of_ofNumber_eq_none (n : Word) (h : Reg.ofNumber n = none) (r : Reg) : n ≠ r.number := by
  rintro rfl
  simp at h

/-- A number that no register has is undefined. -/
theorem Reg.ofNumber_eq_none_of_forall_ne (n : Word) (h : ∀ r : Reg, n ≠ r.number) : Reg.ofNumber n = none := by
  cases hr : Reg.ofNumber n with
  | none => rfl
  | some r => exact absurd (Reg.number_of_ofNumber n r hr).symm (h r)

/-- The gaps of the register map (R32). -/
theorem Reg.ofNumber_eq_none_of_gap (n : Word)
    (h : n.toNat = 0x03 ∨ (0x0B ≤ n.toNat ∧ n.toNat ≤ 0x0F) ∨ n.toNat = 0x17 ∨ 0x1E ≤ n.toNat) :
    Reg.ofNumber n = none := by
  refine Reg.ofNumber_eq_none_of_forall_ne n fun r hr => ?_
  subst hr
  cases r <;> simp [Reg.number] at h

theorem hostReadReg_of_undefined (s : State) (n : Word) (h : Reg.ofNumber n = none) :
    hostReadReg s n = (s.withReply 0).takeFault .addr n := by
  simp [hostReadReg, h]

theorem writeRegister_of_undefined (s : State) (n v : Word) (h : Reg.ofNumber n = none) :
    writeRegister s n v = .next (s.takeFault .addr n) := by
  simp [writeRegister, hostWriteReg, Reg.number_ne_of_ofNumber_eq_none n h .cmd, h]

/-! ## The step of a register transaction and of `RESET` -/

theorem step_rd (s : State) (rest : List Transaction) (n : Word) (h : s.pending = .rd n :: rest) :
    step s = .next (hostReadReg (s.dequeue rest) n) :=
  step_of_pending s _ rest h

theorem step_wr_of_not_faulted (s : State) (rest : List Transaction) (n v : Word) (h : s.pending = .wr n v :: rest)
    (hf : s.faulted = false) : step s = writeRegister (s.dequeue rest) n v := by
  simp [step_of_pending s _ rest h, transact, hf]

theorem step_reset (s : State) (rest : List Transaction) (h : s.pending = .reset :: rest) :
    step s = .next (s.dequeue rest).afterReset :=
  step_of_pending s _ rest h

/-- Settles O38: a gap of the register map names no register, so the access takes `ERR_ADDR`, which records the number
and leaves the rest of the dequeued state as it is. -/
theorem undefinedRegisterFaults : Obligations.UndefinedRegisterFaults := by
  intro s rest n v hf hgap
  have hn : Reg.ofNumber n = none := Reg.ofNumber_eq_none_of_gap n hgap
  constructor
  · intro hp
    rw [step_rd s rest n hp, hostReadReg_of_undefined _ n hn,
      State.takeFault_of_not_faulted ((s.dequeue rest).withReply 0) _ _ hf]
    rfl
  · intro hp
    rw [step_wr_of_not_faulted s rest n v hp hf, writeRegister_of_undefined _ n v hn,
      State.takeFault_of_not_faulted (s.dequeue rest) _ _ hf]
    rfl

/-! ## What registers and spaces read after reset -/

/-- The parameter a `CFG` register holds, none for any other register (R29). -/
def cfgParam (P : Params) : Reg → Option Nat
  | .cfgFbWidth => some P.fbWidth
  | .cfgFbStride => some P.fbStride
  | .cfgFbHeight => some P.fbHeight
  | .cfgSurfSize => some P.surfSize
  | .cfgMaxSrc => some P.maxSrc
  | .cfgTlenMax => some P.tlenMax
  | _ => none

/-- R10's bounds: every parameter a `CFG` register holds fits in 32 bits. -/
theorem cfgParam_lt (P : Params) (r : Reg) (p : Nat) (h : cfgParam P r = some p) : p < 2 ^ 32 := by
  cases r <;> simp only [cfgParam, Option.some.injEq, reduceCtorEq] at h <;> subst h
  case cfgFbWidth => exact P.fbWidth_le_stride.trans_lt P.fbStride_lt
  case cfgFbStride => exact P.fbStride_lt
  case cfgFbHeight => exact P.fbHeight_lt
  case cfgSurfSize => exact P.surfSize_lt
  case cfgMaxSrc => exact P.maxSrc_lt
  case cfgTlenMax => exact P.tlenMax_lt

theorem regRead_of_cfgParam (s : State) (r : Reg) (p : Nat) (h : cfgParam s.cfg r = some p) :
    regRead s r = BitVec.ofNat 32 p := by
  cases r <;> simp only [cfgParam, Option.some.injEq, reduceCtorEq] at h <;> subst h <;> rfl

/-- A `CFG` register reads its parameter without truncation. -/
theorem regRead_toNat_of_cfgParam (s : State) (r : Reg) (p : Nat) (h : cfgParam s.cfg r = some p) :
    (regRead s r).toNat = p := by
  rw [regRead_of_cfgParam s r p h, BitVec.toNat_ofNat, Nat.mod_eq_of_lt (cfgParam_lt s.cfg r p h)]

/-- A `CFG` register depends on the parameters alone. -/
theorem regRead_congr_of_cfgParam (s t : State) (r : Reg) (p : Nat) (hs : cfgParam s.cfg r = some p)
    (ht : t.cfg = s.cfg) : regRead t r = regRead s r := by
  rw [regRead_of_cfgParam s r p hs, regRead_of_cfgParam t r p (ht ▸ hs)]

theorem statusWord_resetOf (P : Params) : statusWord (State.resetOf P) = 0 := by
  simp [statusWord, State.resetOf]

/-- Every register but the `CFG` ones reads 0 after reset (R46). -/
theorem regRead_resetOf (P : Params) (r : Reg) (h : cfgParam P r = none) : regRead (State.resetOf P) r = 0 := by
  cases r
  case cfgFbWidth | cfgFbStride | cfgFbHeight | cfgSurfSize | cfgMaxSrc | cfgTlenMax => simp [cfgParam] at h
  case status => exact statusWord_resetOf P
  all_goals rfl

/-- The transactions still to come and the model's counter show in no register. -/
theorem regRead_afterReset (s : State) (r : Reg) : regRead s.afterReset r = regRead (State.resetOf s.cfg) r := by
  cases r <;> rfl

theorem spaceRead_palrom (s : State) (i : Nat) (h : i < 256) :
    spaceRead s .palrom i = some ((romWord s.cfg.palRgb[i]).zeroExtend 32) := by
  simp [spaceRead, palrom_getElem s.cfg i h]

/-- `PALROM` depends on the parameters alone (R41). -/
theorem spaceRead_palrom_congr (s t : State) (i : Nat) (h : t.cfg = s.cfg) :
    spaceRead t .palrom i = spaceRead s .palrom i := by
  simp [spaceRead, h]

/-- Every element of the nine writable spaces is unwritten after reset (R45, R46). -/
theorem spaceRead_resetOf (P : Params) (space : Space) (h : space ≠ .palrom) (i : Nat) :
    spaceRead (State.resetOf P) space i = none := by
  cases space
  case palrom => exact absurd rfl h
  all_goals rfl

theorem spaceRead_afterReset (s : State) (space : Space) (i : Nat) :
    spaceRead s.afterReset space i = spaceRead (State.resetOf s.cfg) space i := by
  cases space <;> rfl

/-- Settles O48: the step of `RESET` is `State.afterReset`, which reads as `State.resetOf` of the same parameters; the
power-on state is `State.resetOf` too. -/
theorem resetRestoresEveryPieceOfState : Obligations.ResetRestoresEveryPieceOfState := by
  refine ⟨fun s rest hp => ⟨(s.dequeue rest).afterReset, step_reset s rest hp, ?cfgKept, ?zero, ?palromKept,
    ?unwritten, rfl, rfl⟩, ?zeroAtPowerOn, regRead_toNat_of_cfgParam _ _ _ rfl, regRead_toNat_of_cfgParam _ _ _ rfl,
    regRead_toNat_of_cfgParam _ _ _ rfl, regRead_toNat_of_cfgParam _ _ _ rfl, regRead_toNat_of_cfgParam _ _ _ rfl,
    regRead_toNat_of_cfgParam _ _ _ rfl, fun i h => spaceRead_palrom State.reset i h, spaceRead_resetOf Config.params⟩
  case cfgKept =>
    intro r hr
    obtain ⟨p, hparam⟩ : ∃ p, cfgParam s.cfg r = some p := by
      fin_cases hr <;> exact ⟨_, rfl⟩
    exact regRead_congr_of_cfgParam s _ r p hparam rfl
  case zero =>
    intro r hr
    rw [regRead_afterReset]
    exact regRead_resetOf _ r (by fin_cases hr <;> rfl)
  case palromKept => exact fun i => spaceRead_palrom_congr s _ i rfl
  case unwritten =>
    intro space hspace i
    rw [spaceRead_afterReset]
    exact spaceRead_resetOf _ space hspace i
  case zeroAtPowerOn => exact fun r hr => regRead_resetOf _ r (by fin_cases hr <;> rfl)

end Sys2Proof.Machine
end

section
/-! PROOFS, 30_encoding.md. Which words decode (R92), which are illegal, and what writing an illegal one to `CMD` does
(R94), after the facts they need: a word is its fields, the fields that decode are those of the commands, the fields of
the commands are the well-formed ones. -/

namespace Sys2Proof

/-! ## A command word is its fields -/

@[simp] theorem fieldsOfWord_wordOfFields (f : CommandFields) : fieldsOfWord (wordOfFields f) = f := by
  obtain ⟨rsv, ch, op⟩ := f
  have hrsv : (rsv ++ ch ++ op).extractLsb' 9 23 = rsv := by
    rw [BitVec.extractLsb'_append_eq_of_le (by decide)]
    exact BitVec.extractLsb'_append_eq_left
  have hch : (rsv ++ ch ++ op).extractLsb' 8 1 = ch := by
    rw [BitVec.extractLsb'_append_eq_of_le (by decide)]
    exact BitVec.extractLsb'_append_eq_right
  have hop : (rsv ++ ch ++ op).extractLsb' 0 8 = op := BitVec.extractLsb'_append_eq_right
  exact CommandFields.mk.injEq .. ▸ ⟨hrsv, hch, hop⟩

@[simp] theorem wordOfFields_fieldsOfWord (w : Word) : wordOfFields (fieldsOfWord w) = w :=
  calc w.extractLsb' 9 23 ++ w.extractLsb' 8 1 ++ w.extractLsb' 0 8
    _ = w.extractLsb' 8 24 ++ w.extractLsb' 0 8 := by
      rw [BitVec.extractLsb'_append_extractLsb'_eq_extractLsb' (start₁ := 8) (len₁ := 1) rfl]
    _ = w.extractLsb' 0 32 := BitVec.extractLsb'_append_extractLsb'_eq_extractLsb' rfl
    _ = w := BitVec.extractLsb'_eq_self

theorem fieldsOfWord_eq_iff (w : Word) (f : CommandFields) : fieldsOfWord w = f ↔ w = wordOfFields f := by
  constructor
  · rintro rfl
    exact (wordOfFields_fieldsOfWord w).symm
  · rintro rfl
    exact fieldsOfWord_wordOfFields f

/-- The mask of `RESAMPLE` in R92 clears `CH` and nothing else. -/
theorem wordOfFields_and_mask (f : CommandFields) : wordOfFields f &&& 0xFFFFFEFF = wordOfFields { f with ch := 0 } :=
  calc (f.rsv ++ f.ch ++ f.op) &&& (BitVec.allOnes 23 ++ 0#1 ++ BitVec.allOnes 8)
    _ = f.rsv ++ 0#1 ++ f.op := by
      rw [BitVec.and_append, BitVec.and_append, BitVec.and_allOnes, BitVec.and_zero, BitVec.and_allOnes]

/-- `CH` is `w[8]`. -/
theorem channelOfBit_ch_fieldsOfWord (w : Word) :
    channelOfBit (fieldsOfWord w).ch = if w.getLsbD 8 then .auxiliary else .primary := by
  rw [BitVec.getLsbD_eq_extractLsb']
  obtain h | h : (fieldsOfWord w).ch = 0 ∨ (fieldsOfWord w).ch = 1 := BitVec.eq_zero_or_eq_one _
  · rw [h, show w.extractLsb' 8 1 = 0 from h]; rfl
  · rw [h, show w.extractLsb' 8 1 = 1 from h]; rfl

/-! ## The well-formed fields are those of the commands -/

theorem CommandFields.wellFormed_iff (f : CommandFields) :
    f.wellFormed = true ↔ f.rsv = 0 ∧ (f.op = 0x01 ∨ f.op = 0x02 ∨ f.op = 0x03 ∨ f.op = 0x04 ∨ f.op = 0x05) ∧
      (f.ch = 0 ∨ f.op = 0x03) := by
  simp [wellFormed, reservedClear, operationKnown, channelAllowed, and_assoc, or_assoc]

/-- `OP` is unknown when it is 0x00 or 0x06 to 0xFF (R94). -/
theorem CommandFields.operationKnown_eq_false_iff (f : CommandFields) :
    f.operationKnown = false ↔ f.op = 0x00 ∨ 0x06 ≤ f.op.toNat := by
  simp only [operationKnown, Bool.or_eq_false_iff, beq_eq_false_iff_ne]
  bv_omega

/-- The ways to be illegal that R94 lists. -/
theorem CommandFields.wellFormed_eq_false_iff (f : CommandFields) :
    f.wellFormed = false ↔ f.op = 0x00 ∨ 0x06 ≤ f.op.toNat ∨ f.rsv ≠ 0 ∨ (f.ch = 1 ∧ f.op ≠ 0x03) := by
  have hrsv : f.reservedClear = false ↔ f.rsv ≠ 0 := by simp [reservedClear]
  have hch : f.channelAllowed = false ↔ f.ch = 1 ∧ f.op ≠ 0x03 := by
    obtain h | h := BitVec.eq_zero_or_eq_one f.ch <;> simp [channelAllowed, h]
  simp only [wellFormed, Bool.and_eq_false_iff, hrsv, f.operationKnown_eq_false_iff, hch]
  tauto

theorem Instr.fields_resample_channelOfBit (ch : BitVec 1) :
    (Instr.resample (channelOfBit ch)).fields = ⟨0, ch, 0x03⟩ := by
  obtain rfl | rfl := BitVec.eq_zero_or_eq_one ch <;> rfl

theorem Instr.wellFormed_fields (i : Instr) : i.fields.wellFormed = true := by
  cases i
  case palbuild => exact Laws.LegalWord.palbuild.1
  case blit => exact Laws.LegalWord.blit.1
  case resample ch => exact (Laws.LegalWord.resample ch).1
  case mix => exact Laws.LegalWord.mix.1
  case widen => exact Laws.LegalWord.widen.1

theorem CommandFields.exists_eq_fields_of_wellFormed (f : CommandFields) (h : f.wellFormed = true) :
    ∃ i : Instr, f = i.fields := by
  obtain ⟨rsv, ch, op⟩ := f
  simp only [wellFormed_iff] at h
  obtain ⟨rfl, hop, hch⟩ := h
  by_cases hop3 : op = 0x03
  · subst hop3
    exact ⟨.resample (channelOfBit ch), (Instr.fields_resample_channelOfBit ch).symm⟩
  · obtain rfl : ch = 0 := hch.resolve_right hop3
    obtain rfl | rfl | rfl | rfl | rfl := hop
    · exact ⟨.palbuild, rfl⟩
    · exact ⟨.blit, rfl⟩
    · exact absurd rfl hop3
    · exact ⟨.mix, rfl⟩
    · exact ⟨.widen, rfl⟩

/-! ## The fields that decode are the well-formed ones -/

theorem withoutChannel_eq_ok_iff (f : CommandFields) (i j : Instr) :
    withoutChannel f i = .ok j ↔ f.ch = 0 ∧ i = j := by
  unfold withoutChannel
  by_cases h : f.ch = 0
  · rw [if_pos h, Except.ok.injEq, and_iff_right h]
  · rw [if_neg h]
    exact iff_of_false nofun fun hij => h hij.1

@[simp] theorem decodeFields_fields (i : Instr) : decodeFields i.fields = .ok i := by
  cases i
  case resample ch => cases ch <;> rfl
  case palbuild | blit | mix | widen => rfl

/-- The procedure of R95 answers a command only on the branches of the five operations, with `RSV` and, but for
`RESAMPLE`, `CH` found clear. -/
theorem CommandFields.wellFormed_of_decodeFields (f : CommandFields) (i : Instr) (h : decodeFields f = .ok i) :
    f.wellFormed = true := by
  rw [wellFormed_iff]
  unfold decodeFields at h
  split_ifs at h with hrsv h1 h2 h3 h4 h5
  · exact ⟨not_not.1 hrsv, .inl h1, .inl ((withoutChannel_eq_ok_iff ..).1 h).1⟩
  · exact ⟨not_not.1 hrsv, .inr (.inl h2), .inl ((withoutChannel_eq_ok_iff ..).1 h).1⟩
  · exact ⟨not_not.1 hrsv, .inr (.inr (.inl h3)), .inr h3⟩
  · exact ⟨not_not.1 hrsv, .inr (.inr (.inr (.inl h4))), .inl ((withoutChannel_eq_ok_iff ..).1 h).1⟩
  · exact ⟨not_not.1 hrsv, .inr (.inr (.inr (.inr h5))), .inl ((withoutChannel_eq_ok_iff ..).1 h).1⟩

theorem decodeFields_eq_ok_iff (f : CommandFields) (i : Instr) : decodeFields f = .ok i ↔ f = i.fields := by
  constructor
  · intro h
    obtain ⟨j, rfl⟩ := f.exists_eq_fields_of_wellFormed (f.wellFormed_of_decodeFields i h)
    rw [decodeFields_fields, Except.ok.injEq] at h
    rw [h]
  · rintro rfl
    exact decodeFields_fields i

/-! ## The words that decode -/

theorem decode_eq_ok_iff_fields (w : Word) (i : Instr) : decode w = .ok i ↔ fieldsOfWord w = i.fields :=
  decodeFields_eq_ok_iff _ _

theorem decode_eq_ok_iff (w : Word) (i : Instr) : decode w = .ok i ↔ w = encode i := by
  rw [decode_eq_ok_iff_fields, fieldsOfWord_eq_iff, encode]

@[simp] theorem decode_encode (i : Instr) : decode (encode i) = .ok i := (decode_eq_ok_iff _ _).2 rfl

/-- R92's mask and match of `RESAMPLE` fix `RSV` and `OP` and leave `CH` free. -/
theorem and_mask_eq_iff_decode (w : Word) :
    w &&& 0xFFFFFEFF = 0x00000003 ↔ decode w = .ok (.resample (channelOfBit (fieldsOfWord w).ch)) :=
  calc w &&& 0xFFFFFEFF = 0x00000003
    _ ↔ wordOfFields { fieldsOfWord w with ch := 0 } = wordOfFields ⟨0, 0, 0x03⟩ := by
      rw [← wordOfFields_and_mask, wordOfFields_fieldsOfWord]; rfl
    _ ↔ ({ fieldsOfWord w with ch := 0 } : CommandFields) = ⟨0, 0, 0x03⟩ := by
      rw [← fieldsOfWord_eq_iff, fieldsOfWord_wordOfFields]
    _ ↔ fieldsOfWord w = ⟨0, (fieldsOfWord w).ch, 0x03⟩ := by
      obtain ⟨rsv, ch, op⟩ := fieldsOfWord w
      simp only [CommandFields.mk.injEq, true_and]
    _ ↔ decode w = .ok (.resample (channelOfBit (fieldsOfWord w).ch)) := by
      rw [decode_eq_ok_iff_fields, Instr.fields_resample_channelOfBit]

/-- Settles O2: the fields that decode are those of a command, and a word is its fields. -/
theorem decodeAcceptsExactlyTheSixWords : Obligations.DecodeAcceptsExactlyTheSixWords := by
  refine ⟨decode_eq_ok_iff, rfl, rfl, rfl, rfl, rfl, rfl, fun w => ?_⟩
  rw [← channelOfBit_ch_fieldsOfWord]
  exact and_mask_eq_iff_decode w

/-! ## The illegal words -/

theorem decode_ne_ok_iff (w : Word) : (∀ i, decode w ≠ .ok i) ↔ (fieldsOfWord w).wellFormed = false := by
  rw [← Bool.not_eq_true, ← not_exists, not_iff_not]
  constructor
  · rintro ⟨i, h⟩
    exact CommandFields.wellFormed_of_decodeFields _ i h
  · intro h
    obtain ⟨i, hi⟩ := CommandFields.exists_eq_fields_of_wellFormed _ h
    exact ⟨i, (decode_eq_ok_iff_fields w i).2 hi⟩

end Sys2Proof

namespace Sys2Proof.Machine

/-- A word that decodes to no command faults with the word recorded (R94, R197). -/
theorem issueCommand_of_illegal (s : State) (w : Word) (h : ∀ i, decode w ≠ .ok i) :
    issueCommand s w = .next (s.takeFault .illegalCmd w) := by
  unfold issueCommand
  split
  · rfl
  · exact absurd ‹_› (h _)

theorem step_cmd_of_illegal (s : State) (rest : List Transaction) (w : Word)
    (hp : s.pending = .wr Reg.cmd.number w :: rest) (hf : s.faulted = false) (h : ∀ i, decode w ≠ .ok i) :
    step s = .next ((s.dequeue rest).withFaultRecord ErrCode.illegalCmd.code w) := by
  rw [step_wr_of_not_faulted s rest _ w hp hf, writeRegister, if_pos rfl, issueCommand_of_illegal _ w h,
    State.takeFault_of_not_faulted (s.dequeue rest) _ _ hf]

/-- Settles O3: the illegal words are those with ill-formed fields, and the step of such a `CMD` write takes the
transaction and writes the fault record. -/
theorem illegalWordIsRecordedAndExecutesNothing : Obligations.IllegalWordIsRecordedAndExecutesNothing := fun w =>
  ⟨(decode_ne_ok_iff w).trans (fieldsOfWord w).wellFormed_eq_false_iff,
    fun s rest hp hf h => step_cmd_of_illegal s rest w hp hf h⟩

end Sys2Proof.Machine
end

section
/-! PROOFS, 40_palette.md, the conversion function. `pack565` concatenates the kept bits of the channels (R111) and
depends on nothing else (R112), after what masking the low bits of a bit vector does. -/

namespace Sys2Proof.Machine

/-! ## Masking the low bits -/

/-- Clearing the low `n` bits keeps the bits above them in their place. -/
theorem and_highMask {m n : Nat} (x : BitVec (m + n)) :
    x &&& (BitVec.allOnes m ++ 0#n) = x.extractLsb' n m ++ 0#n :=
  calc x &&& (BitVec.allOnes m ++ 0#n)
    _ = (x.extractLsb' n m ++ x.extractLsb' 0 n) &&& (BitVec.allOnes m ++ 0#n) := by
      rw [BitVec.extractLsb'_append_extractLsb'_eq_extractLsb' (Nat.zero_add n).symm, BitVec.extractLsb'_eq_self]
    _ = x.extractLsb' n m ++ 0#n := by
      rw [BitVec.and_append, BitVec.and_allOnes, BitVec.and_zero]

/-- `v & 0xF8` keeps `v[7:3]`. -/
theorem and_0xF8 (v : Byte) : v &&& 0xF8 = v.extractLsb 7 3 ++ 0#3 := and_highMask (m := 5) (n := 3) v

/-- `v & 0xFC` keeps `v[7:2]`. -/
theorem and_0xFC (v : Byte) : v &&& 0xFC = v.extractLsb 7 2 ++ 0#2 := and_highMask (m := 6) (n := 2) v

theorem extractLsb_and_0xF8 (v : Byte) : (v &&& 0xF8).extractLsb 7 3 = v.extractLsb 7 3 := by
  rw [and_0xF8]
  exact BitVec.extractLsb'_append_eq_left

theorem extractLsb_and_0xFC (v : Byte) : (v &&& 0xFC).extractLsb 7 2 = v.extractLsb 7 2 := by
  rw [and_0xFC]
  exact BitVec.extractLsb'_append_eq_left

theorem toNat_append_zero {m n : Nat} (x : BitVec m) : (x ++ 0#n).toNat = x.toNat <<< n := by
  rw [BitVec.toNat_append, BitVec.toNat_zero, Nat.or_zero]

theorem toNat_and_0xF8 (v : Byte) : v.toNat &&& 0xF8 = (v.extractLsb 7 3).toNat <<< 3 :=
  calc v.toNat &&& 0xF8
    _ = (v.extractLsb 7 3 ++ 0#3).toNat := congrArg BitVec.toNat (and_0xF8 v)
    _ = (v.extractLsb 7 3).toNat <<< 3 := toNat_append_zero _

theorem toNat_and_0xFC (v : Byte) : v.toNat &&& 0xFC = (v.extractLsb 7 2).toNat <<< 2 :=
  calc v.toNat &&& 0xFC
    _ = (v.extractLsb 7 2 ++ 0#2).toNat := congrArg BitVec.toNat (and_0xFC v)
    _ = (v.extractLsb 7 2).toNat <<< 2 := toNat_append_zero _

theorem toNat_shiftRight_three (v : Byte) : v.toNat >>> 3 = (v.extractLsb 7 3).toNat := by
  simp only [BitVec.extractLsb_toNat]
  bv_omega

/-! ## `pack565` -/

section

variable (r g b : Byte)

/-- R111's formula on naturals: at 16 bits neither shift loses a bit. -/
theorem pack565_toNat :
    (pack565 r g b).toNat =
      ((r.toNat &&& 0xF8) <<< 8) ||| ((g.toNat &&& 0xFC) <<< 3) ||| (b.toNat >>> 3) := by
  have hr : (r.toNat &&& 0xF8) <<< 8 < 2 ^ 16 := by
    have : r.toNat &&& 0xF8 ≤ 0xF8 := Nat.and_le_right
    omega
  have hg : (g.toNat &&& 0xFC) <<< 3 < 2 ^ 16 := by
    have : g.toNat &&& 0xFC ≤ 0xFC := Nat.and_le_right
    omega
  have hwide (v : Byte) : (v.zeroExtend 16).toNat = v.toNat :=
    BitVec.toNat_setWidth_of_le (by decide)
  simp only [pack565, BitVec.toNat_or, BitVec.toNat_shiftLeft, BitVec.toNat_ushiftRight, BitVec.toNat_and, hwide,
    BitVec.reduceToNat, Nat.mod_eq_of_lt hr, Nat.mod_eq_of_lt hg]

/-- The fields of `pack565` are the high bits of the channels (R111). -/
theorem pack565_eq_append : pack565 r g b = r.extractLsb 7 3 ++ g.extractLsb 7 2 ++ b.extractLsb 7 3 := by
  refine BitVec.eq_of_toNat_eq ?_
  rw [pack565_toNat, toNat_and_0xF8, toNat_and_0xFC, toNat_shiftRight_three, BitVec.toNat_append, BitVec.toNat_append,
    Nat.shiftLeft_or_distrib]
  simp only [← Nat.shiftLeft_add]

/-- The terms of R111 occupy disjoint bits, so `|` reads as `+`. -/
theorem pack565_toNat_add :
    (pack565 r g b).toNat = ((r.toNat &&& 0xF8) <<< 8) + ((g.toNat &&& 0xFC) <<< 3) + (b.toNat >>> 3) := by
  rw [pack565_eq_append, BitVec.toNat_append, BitVec.toNat_append, ← Nat.shiftLeft_add_eq_or_of_lt (BitVec.isLt _),
    ← Nat.shiftLeft_add_eq_or_of_lt (BitVec.isLt _), toNat_and_0xF8, toNat_and_0xFC, toNat_shiftRight_three]
  omega

/-- The low bits of the channels have no effect (R112). -/
theorem pack565_mask : pack565 (r &&& 0xF8) (g &&& 0xFC) (b &&& 0xF8) = pack565 r g b := by
  simp only [pack565_eq_append, extractLsb_and_0xF8, extractLsb_and_0xFC]

end

/-- Settles O8. -/
theorem pack565KeepsTheHighBits : Obligations.Pack565KeepsTheHighBits := fun r g b =>
  ⟨pack565_toNat r g b, pack565_toNat_add r g b, pack565_eq_append r g b⟩

/-- Settles O9: masking leaves the kept bits, and the rule's examples evaluate. -/
theorem pack565NeverRounds : Obligations.Pack565NeverRounds :=
  ⟨fun r g b => (pack565_mask r g b).symm, by decide, by decide, by decide⟩

end Sys2Proof.Machine
end

section
/-! PROOFS, 40_palette.md, the LUT. What `PALBUILD` does (R110), and that nothing but a reset changes a built LUT
(R113): of all commands and transactions only `PALBUILD` and `RESET` write `LUT` or `LUT_VALID`, and a second
`PALBUILD` writes what is there. -/

namespace Sys2Proof.Machine

/-! ## Writing what is there -/

/-- A run of writes whose elements already read its values changes nothing. -/
theorem Mem.writeRun_of_read {width : Nat} (m : Mem width) (base : Nat) (vs : List (BitVec width)) (hm : m.wf)
    (h : ∀ d < vs.length, m.read (base + d) = vs[d]?) : m.writeRun base vs = m := by
  refine Mem.ext_of_wf _ _ (Mem.wf_writeRun _ _ _ hm) hm fun k => ?_
  by_cases hk : base ≤ k ∧ k < base + vs.length
  · obtain ⟨d, rfl⟩ := Nat.exists_eq_add_of_le hk.1
    have hd : d < vs.length := by omega
    rw [Mem.read_writeRun_mem m base vs d hd, h d hd]
  · exact Mem.read_writeRun_of_not_mem m base vs k (by omega)

/-! ## `PALBUILD` -/

section

variable (s : State)

theorem exec_palbuild_of_faulted (h : s.faulted = true) : exec .palbuild s = .next s :=
  (exec_eq_runCommand s _).trans (runCommand_of_faulted _ _ _ _ h)

theorem exec_palbuild_of_not_faulted (h : s.faulted = false) : exec .palbuild s = .next (buildLut s) :=
  (exec_eq_runCommand s _).trans (runCommand_of_effect _ _ _ _ _ h rfl rfl)

/-- The LUT holds the converted palette after a build (R110). -/
theorem read_buildLut (i : Nat) (h : i < 256) : (buildLut s).lut.read i = (palrom s.cfg)[i]?.map lutEntry := by
  have hlen : ((palrom s.cfg).map lutEntry).length = 256 := by simp
  have hrun := Mem.read_writeRun_mem s.lut 0 ((palrom s.cfg).map lutEntry) i (hlen ▸ h)
  rwa [Nat.zero_add, List.getElem?_map] at hrun

/-- Entry `i` of a built LUT is `pack565` of palette entry `i` (R114). -/
theorem read_buildLut_eq_pack565 (i : Nat) (h : i < 256) :
    (buildLut s).lut.read i = some (pack565 s.cfg.palRgb[i].r s.cfg.palRgb[i].g s.cfg.palRgb[i].b) := by
  rw [read_buildLut s i h, palrom_getElem s.cfg i h, Option.map_some, lutEntry_romWord]

/-- A build writes no element beyond the 256 entries. -/
theorem read_buildLut_of_le (i : Nat) (h : 256 ≤ i) : (buildLut s).lut.read i = s.lut.read i :=
  Mem.read_writeRun_of_not_mem _ _ _ _ (.inr (by simpa using h))

/-- A LUT that `LUT_VALID` vouches for is rebuilt as it is (R113). -/
theorem buildLut_lut_of_invariant (h : s.Invariant) (hv : s.lutValid = true) : (buildLut s).lut = s.lut := by
  refine Mem.writeRun_of_read _ _ _ h.canonical.1 fun d hd => ?_
  have hd : d < 256 := by simpa using hd
  rw [Nat.zero_add, h.lutBuilt hv d hd, List.getElem?_map]

end

/-- Settles O10: the two branches of the command's frame, and what the run of 256 writes leaves at each index. -/
theorem palbuildBuildsTheLut : Obligations.PalbuildBuildsTheLut := by
  refine ⟨rfl, fun s => ⟨exec_palbuild_of_faulted s, fun hf => ?_⟩⟩
  exact ⟨buildLut s, exec_palbuild_of_not_faulted s hf, rfl, read_buildLut_eq_pack565 s, read_buildLut_of_le s⟩

/-! ## What writes the LUT -/

section

variable (s t : State)

/-- The effect of a command other than `PALBUILD` leaves `LUT` and `LUT_VALID` alone. -/
theorem commandEffect_lut (i : Instr) (hi : i ≠ .palbuild) (h : commandEffect i s = .ok t) :
    t.lut = s.lut ∧ t.lutValid = s.lutValid := by
  cases i with
  | palbuild => exact absurd rfl hi
  | blit =>
    obtain ⟨rows, -, rfl⟩ := blitEffect_ok s t h
    exact ⟨rfl, rfl⟩
  | resample ch =>
    obtain ⟨vs, -, rfl⟩ := resampleEffect_ok s t ch h
    cases ch <;> simp [State.commitRs]
  | mix =>
    obtain ⟨vs, -, rfl⟩ := mixEffect_ok s t h
    exact ⟨rfl, rfl⟩
  | widen =>
    obtain ⟨vs, -, rfl⟩ := widenEffect_ok s t h
    exact ⟨rfl, rfl⟩

/-- A command that answers a next state builds the LUT, as `PALBUILD` alone does, or leaves it alone. -/
theorem exec_lut (i : Instr) (h : exec i s = .next t) :
    (i = .palbuild ∧ t = buildLut s) ∨ (t.lut = s.lut ∧ t.lutValid = s.lutValid) := by
  obtain ⟨-, rfl⟩ | ⟨-, c, -, rfl⟩ | ⟨-, -, he⟩ := exec_next s t i h
  · exact .inr ⟨rfl, rfl⟩
  · exact .inr ⟨rfl, rfl⟩
  · by_cases hi : i = .palbuild
    · subst hi
      exact .inl ⟨rfl, (Except.ok.inj he).symm⟩
    · exact .inr (commandEffect_lut s t i hi he)

theorem takeFault_lut (c : ErrCode) (info : Word) :
    (s.takeFault c info).lut = s.lut ∧ (s.takeFault c info).lutValid = s.lutValid := by
  unfold State.takeFault
  split <;> exact ⟨rfl, rfl⟩

/-- A host memory write never reaches `LUT` (R61). -/
theorem spaceWrite_lut (space : Space) (i : Nat) (v : Word) :
    (spaceWrite s space i v).lut = s.lut ∧ (spaceWrite s space i v).lutValid = s.lutValid := by
  cases space <;> exact ⟨rfl, rfl⟩

theorem regWrite_lut (r : Reg) (v : Word) :
    (regWrite s r v).lut = s.lut ∧ (regWrite s r v).lutValid = s.lutValid := by
  cases r <;> exact ⟨rfl, rfl⟩

/-- Of all transactions only `RESET` and the `CMD` write of `PALBUILD` touch `LUT` and `LUT_VALID`. -/
theorem Performed.lut_cases (x : Transaction) (h : Performed s t x) :
    x = .reset ∨ (x = .wr Reg.cmd.number (encode .palbuild) ∧ t = buildLut s) ∨
      (t.lut = s.lut ∧ t.lutValid = s.lutValid) := by
  cases h with
  | reset _ => exact .inl rfl
  | command w i _ hw hx =>
    obtain rfl := (decode_eq_ok_iff w i).1 hw
    obtain ⟨rfl, ht⟩ | hkeep := exec_lut s t i hx
    · exact .inr (.inl ⟨rfl, ht⟩)
    · exact .inr (.inr hkeep)
  | wroteReg r v _ _ hu => exact .inr (.inr (hu ▸ regWrite_lut s r v))
  | wroteMem space i v _ _ _ hu => exact .inr (.inr (hu ▸ spaceWrite_lut s space i.toNat v))
  | undefinedRd n _ hu => exact .inr (.inr (hu ▸ takeFault_lut (s.withReply 0) .addr n))
  | failedRm sp i c _ hu => exact .inr (.inr (hu ▸ takeFault_lut (s.withReply 0) c i))
  | ignoredWr _ _ _ hu | ignoredWm _ _ _ _ hu | illegal _ _ _ _ hu | undefinedWr _ _ _ _ hu | readOnlyWr _ _ _ _ hu
  | failedWm _ _ _ _ _ _ hu | readReg _ hu | readMem _ _ _ hu =>
    subst hu
    exact .inr (.inr ⟨rfl, rfl⟩)

/-- What a step can do to the LUT. -/
theorem step_lut_cases (h : step s = .next t) :
    (∃ rest, s.pending = .reset :: rest) ∨
    (∃ rest, s.pending = .wr Reg.cmd.number (encode .palbuild) :: rest ∧ t = buildLut (s.dequeue rest)) ∨
    (t.lut = s.lut ∧ t.lutValid = s.lutValid) := by
  obtain ⟨-, rfl⟩ | ⟨x, rest, hp, hx⟩ := step_cases s t h
  · exact .inr (.inr ⟨rfl, rfl⟩)
  · obtain rfl | ⟨rfl, ht⟩ | hkeep := Performed.lut_cases (s.dequeue rest) t x hx
    · exact .inl ⟨rest, hp⟩
    · exact .inr (.inl ⟨rest, hp, ht⟩)
    · exact .inr (.inr hkeep)

end

/-- Settles O11: the LUT's entries after a build depend on the parameters alone, and of all steps only a reset and a
`PALBUILD` touch the LUT, the latter without changing one that is built. -/
theorem lutIsImmutableUntilReset : Obligations.LutIsImmutableUntilReset := by
  refine ⟨?completes, ?same, ?others, ?built⟩
  case completes =>
    intro s
    cases hf : s.faulted with
    | true => exact ⟨s, exec_palbuild_of_faulted s hf⟩
    | false => exact ⟨buildLut s, exec_palbuild_of_not_faulted s hf⟩
  case same =>
    intro s u t v hcfg hs hu ht hv i hi
    rw [exec_palbuild_of_not_faulted s hs, Host.Outcome.next.injEq] at ht
    rw [exec_palbuild_of_not_faulted u hu, Host.Outcome.next.injEq] at hv
    rw [← ht, ← hv, read_buildLut s i hi, read_buildLut u i hi, hcfg]
  case others =>
    intro s t hst hreset hbuild
    obtain ⟨rest, hp⟩ | ⟨rest, hp, -⟩ | ⟨hlut, -⟩ := step_lut_cases s t hst
    · exact absurd hp (hreset rest)
    · exact absurd hp (hbuild rest)
    · exact hlut
  case built =>
    intro s t hinv hvalid hst hreset
    obtain ⟨rest, hp⟩ | ⟨rest, -, rfl⟩ | ⟨hlut, hkept⟩ := step_lut_cases s t hst
    · exact absurd hp (hreset rest)
    · exact ⟨buildLut_lut_of_invariant s hinv hvalid, rfl⟩
    · exact ⟨hlut, hkept.trans hvalid⟩

end Sys2Proof.Machine
end

section
/-! PROOFS, 41_blitter.md. The checks of `BLIT` (R121) decide whether it faults or has its effect; the effect is said
once (`exec_blit_of_pixels`): every pixel that can be read stands at its place in the framebuffer, and nothing else is
written (R122, R123). -/

namespace Sys2Proof.Machine

variable (s : State)

/-! ## The checks -/

theorem checkBlit_of_lut_unbuilt (h : s.lutValid = false) : checkBlit s = some .lutUnbuilt :=
  if_pos h

theorem checkBlit_of_geometry (hl : s.lutValid = true)
    (h : s.cfg.fbStride < s.visW.toNat ∨ s.cfg.fbHeight < s.visH.toNat) : checkBlit s = some .blitGeometry := by
  simp only [checkBlit, hl, Bool.true_eq_false, if_false, if_pos h]

section

variable (hl : s.lutValid = true) (hw : s.visW.toNat ≤ s.cfg.fbStride) (hh : s.visH.toNat ≤ s.cfg.fbHeight)

include hl hw hh

/-- Past the first two checks the source range decides (R121). -/
theorem checkBlit_of_fits : checkBlit s =
    if s.visTop.toNat < s.dispTop.toNat ∨ s.cfg.surfSize < blitBase s + s.visW.toNat * s.visH.toNat then
      some .surfRange else none := by
  have hgeo : ¬ (s.cfg.fbStride < s.visW.toNat ∨ s.cfg.fbHeight < s.visH.toNat) := by omega
  simp only [checkBlit, hl, Bool.true_eq_false, if_false, if_neg hgeo, ite_or]

theorem checkBlit_of_top_above_display (h : s.visTop.toNat < s.dispTop.toNat) : checkBlit s = some .surfRange :=
  (checkBlit_of_fits s hl hw hh).trans (if_pos (.inl h))

theorem checkBlit_of_past_surface (h : s.cfg.surfSize < blitBase s + s.visW.toNat * s.visH.toNat) :
    checkBlit s = some .surfRange :=
  (checkBlit_of_fits s hl hw hh).trans (if_pos (.inr h))

/-- When the checks pass; `checkBlit_none` is the converse. -/
theorem checkBlit_eq_none (ht : s.dispTop.toNat ≤ s.visTop.toNat)
    (hs : blitBase s + s.visW.toNat * s.visH.toNat ≤ s.cfg.surfSize) : checkBlit s = none :=
  (checkBlit_of_fits s hl hw hh).trans (if_neg (by omega))

end

/-- A `BLIT` that fails a check records its code with the command word (R121, R203). -/
theorem exec_blit_of_check (c : ErrCode) (hf : s.faulted = false) (hc : checkBlit s = some c) :
    exec .blit s = .next (s.withFaultRecord c.code (encode .blit)) :=
  (exec_eq_runCommand s _).trans (runCommand_of_check _ _ _ _ c hf hc)

/-- Settles O12: each clause is one failing check. -/
theorem blitChecksInOrder : Obligations.BlitChecksInOrder := by
  intro s hf
  refine ⟨fun hl => ?lut, fun hl hgeo => ?geometry, fun hl hw hh ht => ?top, fun hl hw hh _ hs => ?range⟩
  case lut => exact exec_blit_of_check s _ hf (checkBlit_of_lut_unbuilt s hl)
  case geometry => exact exec_blit_of_check s _ hf (checkBlit_of_geometry s hl hgeo)
  case top => exact exec_blit_of_check s _ hf (checkBlit_of_top_above_display s hl hw hh ht)
  case range => exact exec_blit_of_check s _ hf (checkBlit_of_past_surface s hl hw hh hs)

/-! ## The effect -/

/-- A `BLIT` that computes its rows writes them and sets the size registers (R122). -/
theorem exec_blit_of_rows (rows : List (List Color)) (hf : s.faulted = false) (hc : checkBlit s = none)
    (hrows : blitRows s = .ok rows) :
    exec .blit s = .next (s.commitBlit (writeRows s.cfg s.fb 0 rows) s.visW s.visH) := by
  have heffect : blitEffect s = .ok (s.commitBlit (writeRows s.cfg s.fb 0 rows) s.visW s.visH) := by
    rw [blitEffect, hrows]
  exact (exec_eq_runCommand s _).trans (runCommand_of_effect _ _ _ _ _ hf hc heffect)

/-- Every row a blit computes has `W` pixels. -/
theorem length_of_mem_blitRows (rows : List (List Color)) (h : blitRows s = .ok rows) (row : List Color)
    (hrow : row ∈ rows) : row.length = s.visW.toNat := by
  obtain ⟨hlen, hget⟩ := blitRows_ok s rows h
  obtain ⟨r, hr⟩ := List.mem_iff_getElem?.1 hrow
  obtain ⟨hlt, -⟩ := List.getElem?_eq_some_iff.1 hr
  obtain ⟨row', hr', hlen', -⟩ := hget r (hlen ▸ hlt)
  obtain rfl : row = row' := Option.some.inj (hr.symm.trans hr')
  exact hlen'

/-- The rows of a blit, written, are its pixels at their places. -/
theorem read_writeRows_blitRows (rows : List (List Color)) (h : blitRows s = .ok rows)
    (hw : s.visW.toNat ≤ s.cfg.fbStride) (r : Nat) (hr : r < s.visH.toNat) (c : Nat) (hc : c < s.visW.toNat)
    (p : Color) (hp : blitPixel s r c = .ok p) :
    (writeRows s.cfg s.fb 0 rows).read (fbIndex s.cfg r c) = some p := by
  obtain ⟨hlen, hget⟩ := blitRows_ok s rows h
  obtain ⟨row, hrow, hrowLen, hpixels⟩ := hget r hr
  obtain ⟨q, hq, hread⟩ := hpixels c hc
  obtain rfl : q = p := Except.ok.inj (hq.symm.trans hp)
  have hwidth : ∀ x ∈ rows, x.length ≤ s.cfg.fbStride := fun x hx => (length_of_mem_blitRows s rows h x hx).trans_le hw
  have hwritten := read_writeRows s.cfg s.fb 0 rows hwidth r c (hlen ▸ hr) row hrow (hrowLen ▸ hc)
  rwa [Nat.zero_add, hread] at hwritten

/-- The rows of a blit, written, leave every element outside the rectangle (R123). -/
theorem read_writeRows_blitRows_of_outside (rows : List (List Color)) (h : blitRows s = .ok rows) (a : Nat)
    (ha : ∀ r < s.visH.toNat, ∀ c < s.visW.toNat, a ≠ fbIndex s.cfg r c) :
    (writeRows s.cfg s.fb 0 rows).read a = s.fb.read a := by
  refine read_writeRows_of_not_mem _ _ _ _ _ fun r row hrow c hc => ?_
  obtain ⟨hlt, -⟩ := List.getElem?_eq_some_iff.1 hrow
  rw [length_of_mem_blitRows s rows h row (List.mem_of_getElem? hrow)] at hc
  rw [(blitRows_ok s rows h).1] at hlt
  simpa using ha r hlt c hc

/-- A `BLIT` whose checks pass and whose pixels can all be read completes: the framebuffer `m` it leaves holds each
pixel of the rectangle and is otherwise as before, and besides it only the size registers and their flag change. -/
theorem exec_blit_of_pixels (hf : s.faulted = false) (hcheck : checkBlit s = none)
    (h : ∀ r < s.visH.toNat, ∀ c < s.visW.toNat, ∃ p, blitPixel s r c = .ok p) :
    ∃ m, exec .blit s = .next (s.commitBlit m s.visW s.visH) ∧
      (∀ r < s.visH.toNat, ∀ c < s.visW.toNat, ∀ p, blitPixel s r c = .ok p →
        m.read (fbIndex s.cfg r c) = some p) ∧
      ∀ a, (∀ r < s.visH.toNat, ∀ c < s.visW.toNat, a ≠ fbIndex s.cfg r c) → m.read a = s.fb.read a := by
  obtain ⟨rows, hrows⟩ := blitRows_total s h
  obtain ⟨-, hw, -⟩ := checkBlit_none s hcheck
  exact ⟨_, exec_blit_of_rows s rows hf hcheck hrows, read_writeRows_blitRows s rows hrows hw,
    read_writeRows_blitRows_of_outside s rows hrows⟩

/-- Settles O13: a written surface element and the full LUT make every pixel readable, and `exec_blit_of_pixels` says
what the blit leaves. -/
theorem blitCopiesTheVisibleRectangle : Obligations.BlitCopiesTheVisibleRectangle := by
  intro s hf hl hw hh ht hs hlut hsurf
  have hpixel : ∀ r < s.visH.toNat, ∀ c < s.visW.toNat, ∃ idx p,
      s.surf.read (surfIndex s r c) = some idx ∧ s.lut.read idx.toNat = some p := by
    intro r hr c hc
    obtain ⟨idx, hidx⟩ := hsurf r hr c hc
    obtain ⟨p, hp⟩ := hlut idx.toNat idx.isLt
    exact ⟨idx, p, hidx, hp⟩
  have hreadable : ∀ r < s.visH.toNat, ∀ c < s.visW.toNat, ∃ p, blitPixel s r c = .ok p := by
    intro r hr c hc
    obtain ⟨idx, p, hpair⟩ := hpixel r hr c hc
    exact ⟨p, (blitPixel_eq_ok s r c p).2 ⟨idx, hpair⟩⟩
  obtain ⟨m, hexec, hin, hout⟩ := exec_blit_of_pixels s hf (checkBlit_eq_none s hl hw hh ht hs) hreadable
  refine ⟨_, hexec, rfl, fun r hr c hc => ?_, hout⟩
  obtain ⟨idx, p, hidx, hp⟩ := hpixel r hr c hc
  exact ⟨idx, p, hidx, hp, hin r hr c hc p ((blitPixel_eq_ok s r c p).2 ⟨idx, hidx, hp⟩)⟩

/-! ## A rectangle of zero size -/

/-- Rows without pixels write nothing. -/
theorem writeRows_of_forall_nil (P : Params) (m : Mem 16) (r0 : Nat) (rows : List (List Color))
    (h : ∀ row ∈ rows, row = []) : writeRows P m r0 rows = m := by
  induction rows generalizing r0 with
  | nil => rfl
  | cons row rows ih =>
    obtain ⟨rfl, hrest⟩ := List.forall_mem_cons.1 h
    exact ih (r0 + 1) hrest

/-- A rectangle of zero size has no row with a pixel, whatever the memories hold (R125). -/
theorem exists_blitRows_of_zero_size (h : s.visW = 0 ∨ s.visH = 0) :
    ∃ rows, blitRows s = .ok rows ∧ ∀ row ∈ rows, row = [] := by
  have hzero : s.visW.toNat = 0 ∨ s.visH.toNat = 0 := h.imp (congrArg BitVec.toNat) (congrArg BitVec.toNat)
  obtain ⟨rows, hrows⟩ := blitRows_total s fun r hr c hc => by omega
  refine ⟨rows, hrows, fun row hrow => ?_⟩
  obtain hw | hh := hzero
  · exact List.length_eq_zero_iff.1 ((length_of_mem_blitRows s rows hrows row hrow).trans hw)
  · have hlen : rows.length = 0 := (blitRows_ok s rows hrows).1.trans hh
    rw [List.length_eq_zero_iff.1 hlen] at hrow
    exact absurd hrow List.not_mem_nil

/-- With `VIS_W` = 0 the base is 0 (R125). -/
theorem blitBase_of_visW_zero (h : s.visW = 0) : blitBase s = 0 := by
  rw [blitBase, h]
  exact Nat.mul_zero _

/-- Settles O15: a zero size leaves no pixel to read or write. -/
theorem blitOfZeroSizeTouchesNoMemory : Obligations.BlitOfZeroSizeTouchesNoMemory := by
  intro s hf hl hw hh ht hs hzero
  have harea : s.visW.toNat * s.visH.toNat = 0 := by
    obtain h | h := hzero <;> simp [h]
  have hcheck : checkBlit s = none := checkBlit_eq_none s hl hw hh ht (by rw [harea]; exact hs)
  obtain ⟨rows, hrows, hnil⟩ := exists_blitRows_of_zero_size s hzero
  have hexec := exec_blit_of_rows s rows hf hcheck hrows
  rw [writeRows_of_forall_nil s.cfg s.fb 0 rows hnil] at hexec
  exact ⟨hexec, blitBase_of_visW_zero s⟩

/-! ## The end-to-end row -/

/-- With both tops equal and in row 0, column `c` reads surface element `c`. -/
theorem surfIndex_zero_of_top (h : s.visTop = s.dispTop) (c : Nat) : surfIndex s 0 c = c := by
  simp [surfIndex, blitBase, h]

theorem fbIndex_zero (P : Params) (c : Nat) : fbIndex P 0 c = c := by
  simp [fbIndex]

/-- Settles O16: the four pixels are LUT entries 0, 1, 0, 1, which are black and white. -/
theorem blitEndToEndRow : Obligations.BlitEndToEndRow := by
  intro s hf hl hlut hblack hwhite hdt hvt hvw hvh hstride hsize h0 h1 h2 h3
  have hW : s.visW.toNat = 4 := congrArg BitVec.toNat hvw
  have hH : s.visH.toNat = 1 := congrArg BitVec.toNat hvh
  have htop : s.visTop = s.dispTop := hvt.trans hdt.symm
  have hbase : blitBase s = 0 := by simp [blitBase, htop]
  have hcheck : checkBlit s = none :=
    checkBlit_eq_none s hl (hW ▸ hstride) (hH ▸ s.cfg.fbHeight_pos) (htop ▸ le_refl _)
      (by rw [hbase, hW, hH]; exact hsize)
  have hentry0 : s.lut.read 0 = some 0x0000 := by rw [hlut 0 (by decide), hblack]; decide
  have hentry1 : s.lut.read 1 = some 0xFFFF := by rw [hlut 1 (by decide), hwhite]; decide
  have hpixel (c : Nat) (idx : Byte) (p : Color) (hidx : s.surf.read c = some idx)
      (hp : s.lut.read idx.toNat = some p) : blitPixel s 0 c = .ok p :=
    (blitPixel_eq_ok s 0 c p).2 ⟨idx, (surfIndex_zero_of_top s htop c).symm ▸ hidx, hp⟩
  have hp0 := hpixel 0 0 _ h0 hentry0
  have hp1 := hpixel 1 1 _ h1 hentry1
  have hp2 := hpixel 2 0 _ h2 hentry0
  have hp3 := hpixel 3 1 _ h3 hentry1
  have hreadable : ∀ r < s.visH.toNat, ∀ c < s.visW.toNat, ∃ p, blitPixel s r c = .ok p := by
    intro r hr c hc
    obtain rfl : r = 0 := by omega
    obtain rfl | rfl | rfl | rfl : c = 0 ∨ c = 1 ∨ c = 2 ∨ c = 3 := by omega
    exacts [⟨_, hp0⟩, ⟨_, hp1⟩, ⟨_, hp2⟩, ⟨_, hp3⟩]
  obtain ⟨m, hexec, hin, -⟩ := exec_blit_of_pixels s hf hcheck hreadable
  have hread (c : Nat) (hc : c < 4) (p : Color) (hp : blitPixel s 0 c = .ok p) : m.read c = some p := by
    have hwritten := hin 0 (by omega) c (by omega) p hp
    rwa [fbIndex_zero] at hwritten
  exact ⟨_, hexec, hread 0 (by decide) _ hp0, hread 1 (by decide) _ hp1, hread 2 (by decide) _ hp2,
    hread 3 (by decide) _ hp3, hvw, hvh⟩

end Sys2Proof.Machine
end

section
/-! PROOFS, 42_resampler.md. The checks of `RESAMPLE` (R137) decide whether it faults or has its effect. The loop of R139
emits the closed form of R140 (`decimate_eq`): its state is kept in step with the count `k` of emitted samples by
`measurement + k * max = (sourceIndex + 1) * O`. So a `RESAMPLE` that completes reads `T` source elements, none past
`last_index`, and copies them (R143). -/

namespace Sys2Proof.Machine

/-! ## The closed form of the source index -/

/-- Index `j` is far enough for sample `k` when `j + 1` steps of `O` cover `k + 1` steps of `max` (R140). -/
theorem emittedIndex_le_iff (O max k j : Nat) (hO : 0 < O) :
    emittedIndex O max k ≤ j ↔ (k + 1) * max ≤ (j + 1) * O := by
  unfold emittedIndex
  split
  · simp [*]
  · rw [Nat.sub_le_iff_le_add, ceilDiv, ← Nat.ceilDiv_eq_add_pred_div, ceilDiv_le_iff_le_mul hO, Nat.mul_comm O]

/-- The source index never decreases (R140). -/
theorem emittedIndex_mono (O max : Nat) (hO : 0 < O) : Monotone (emittedIndex O max) := by
  intro k l hkl
  have hl : (l + 1) * max ≤ (emittedIndex O max l + 1) * O := (emittedIndex_le_iff O max l _ hO).1 le_rfl
  exact (emittedIndex_le_iff O max k _ hO).2 (le_trans (Nat.mul_le_mul_right max (by omega)) hl)

/-- The last emitted index is `last_index` (R140). -/
theorem emittedIndex_eq_lastIndex (O max T : Nat) : emittedIndex O max T = lastIndex (T + 1) O max := rfl

theorem emittedIndex_le_lastIndex (T O max k : Nat) (hO : 0 < O) (hk : k < T) :
    emittedIndex O max k ≤ lastIndex T O max := by
  obtain ⟨n, rfl⟩ := Nat.exists_eq_add_one_of_ne_zero (Nat.ne_zero_of_lt hk)
  exact emittedIndex_mono O max hO (by omega)

/-- The loop, after `k` samples and with enough fuel for the `remaining` ones, emits their closed form (R140). -/
theorem decimate_eq (O max fuel remaining measurement sourceIndex k : Nat) (hO : 0 < O)
    (hstate : measurement + k * max = (sourceIndex + 1) * O) (hnext : sourceIndex ≤ emittedIndex O max k)
    (hfuel : remaining + emittedIndex O max (k + remaining - 1) ≤ fuel + sourceIndex) :
    decimate O max fuel remaining measurement sourceIndex = (List.range' k remaining).map (emittedIndex O max) := by
  have hemit (m j k : Nat) (h : m + k * max = (j + 1) * O) : max ≤ m ↔ emittedIndex O max k ≤ j := by
    rw [emittedIndex_le_iff O max k j hO, ← h, Nat.add_mul]; omega
  fun_induction decimate O max fuel remaining measurement sourceIndex generalizing k with
  | case1 => rfl
  | case2 m j r =>
    have hmono : emittedIndex O max k ≤ emittedIndex O max (k + r.succ - 1) := emittedIndex_mono O max hO (by omega)
    omega
  | case3 fuel r m j hmax ih =>
    have hj : j = emittedIndex O max k := le_antisymm hnext ((hemit m j k hstate).1 hmax)
    have hmono : emittedIndex O max k ≤ emittedIndex O max (k + 1) := emittedIndex_mono O max hO (Nat.le_succ k)
    rw [show k + r.succ - 1 = k + 1 + r - 1 by omega] at hfuel
    rw [List.range'_succ, List.map_cons, ← hj,
      ih (k + 1) (by rw [Nat.add_mul]; omega) (hj.trans_le hmono) (by omega)]
  | case4 fuel r m j hmax ih =>
    rw [hemit m j k hstate] at hmax
    exact ih k (by rw [Nat.add_mul (j + 1)]; omega) (by omega) (hfuel.trans (by omega))

/-- The fuel of `sourceIndices` never runs out (R140, R141). -/
theorem sourceIndices_eq (T O max : Nat) (hO : 0 < O) :
    sourceIndices T O max = (List.range T).map (emittedIndex O max) := by
  cases T with
  | zero => simp [sourceIndices, decimate]
  | succ n =>
    rw [List.range_eq_range', sourceIndices]
    exact decimate_eq O max _ _ O 0 0 hO (by omega) (Nat.zero_le _) (by simp [emittedIndex_eq_lastIndex])

variable (s t : State) (ch : Channel)

/-- With a target length above 0 the output rate is not 0 (R136). -/
theorem outRate_pos_of_targetLength_pos (h : 0 < targetLength s) : 0 < s.outRate.toNat :=
  Nat.pos_of_div_pos h

/-- The source indices of a `RESAMPLE` are the closed form, whatever the registers hold. -/
theorem resampleIndices_eq :
    resampleIndices s = (List.range (targetLength s)).map (emittedIndex s.outRate.toNat (sourceRate s)) := by
  obtain hT | hT := Nat.eq_zero_or_pos (targetLength s)
  · simp [resampleIndices, sourceIndices, decimate, hT]
  · exact sourceIndices_eq _ _ _ (outRate_pos_of_targetLength_pos s hT)

/-! ## The checks -/

theorem checkResample_of_chipFreq_zero (h : s.chipFreq = 0) : checkResample ch s = some .audioConfig :=
  if_pos (by simp [h])

section

variable (hF : s.chipFreq ≠ 0)

include hF

/-- Past the first check the latch, then the length decides (R137). -/
theorem checkResample_of_chipFreq_ne_zero : checkResample ch s =
    if s.tlenValid = true ∧ targetLength s ≠ s.tlen.toNat then some .rateChanged
    else if s.tlenValid = false ∧ s.cfg.tlenMax < targetLength s then some .tlenCapacity
    else if s.cfg.maxSrc < (srcLen ch s).toNat then some .resamplerOverflow
    else if 0 < targetLength s ∧ (srcLen ch s).toNat ≤ lastIndex (targetLength s) s.outRate.toNat (sourceRate s) then
      some .srcUnderrun
    else none :=
  if_neg fun h => hF (BitVec.eq_of_toNat_eq h)

theorem checkResample_of_rate_changed (hv : s.tlenValid = true) (h : targetLength s ≠ s.tlen.toNat) :
    checkResample ch s = some .rateChanged :=
  (checkResample_of_chipFreq_ne_zero s ch hF).trans (if_pos ⟨hv, h⟩)

theorem checkResample_of_tlen_capacity (hv : s.tlenValid = false) (h : s.cfg.tlenMax < targetLength s) :
    checkResample ch s = some .tlenCapacity := by
  simp [checkResample_of_chipFreq_ne_zero s ch hF, hv, h]

variable (hlatched : s.tlenValid = true → targetLength s = s.tlen.toNat)
  (hfits : s.tlenValid = false → targetLength s ≤ s.cfg.tlenMax)

include hlatched hfits

/-- Past the first three checks the source length decides (R137). -/
theorem checkResample_of_targetLength_ok : checkResample ch s =
    if s.cfg.maxSrc < (srcLen ch s).toNat then some .resamplerOverflow
    else if 0 < targetLength s ∧ (srcLen ch s).toNat ≤ lastIndex (targetLength s) s.outRate.toNat (sourceRate s) then
      some .srcUnderrun
    else none := by
  rw [checkResample_of_chipFreq_ne_zero s ch hF, if_neg fun h => h.2 (hlatched h.1),
    if_neg fun h => (hfits h.1).not_gt h.2]

theorem checkResample_of_overflow (h : s.cfg.maxSrc < (srcLen ch s).toNat) :
    checkResample ch s = some .resamplerOverflow :=
  (checkResample_of_targetLength_ok s ch hF hlatched hfits).trans (if_pos h)

theorem checkResample_of_underrun (hlen : (srcLen ch s).toNat ≤ s.cfg.maxSrc) (hT : 0 < targetLength s)
    (h : (srcLen ch s).toNat ≤ lastIndex (targetLength s) s.outRate.toNat (sourceRate s)) :
    checkResample ch s = some .srcUnderrun := by
  rw [checkResample_of_targetLength_ok s ch hF hlatched hfits, if_neg hlen.not_gt, if_pos ⟨hT, h⟩]

end

/-- A `RESAMPLE` that fails a check records its code with the command word (R137, R203). -/
theorem exec_resample_of_check (c : ErrCode) (hf : s.faulted = false) (hc : checkResample ch s = some c) :
    exec (.resample ch) s = .next (s.withFaultRecord c.code (encode (.resample ch))) :=
  (exec_eq_runCommand s _).trans (runCommand_of_check _ _ _ _ c hf hc)

/-- When the checks pass, the index of each sample is below the source's length (R137). -/
theorem emittedIndex_lt_srcLen (hc : checkResample ch s = none) (k : Nat) (hk : k < targetLength s) :
    emittedIndex s.outRate.toNat (sourceRate s) k < (srcLen ch s).toNat := by
  have hT : 0 < targetLength s := Nat.zero_lt_of_lt hk
  obtain ⟨-, -, -, -, hlast⟩ := checkResample_none s ch hc
  exact (emittedIndex_le_lastIndex _ _ _ k (outRate_pos_of_targetLength_pos s hT) hk).trans_lt (hlast hT)

theorem lt_srcLen_of_mem_resampleIndices (hc : checkResample ch s = none) (j : Nat) (hj : j ∈ resampleIndices s) :
    j < (srcLen ch s).toNat := by
  rw [resampleIndices_eq, List.mem_map] at hj
  obtain ⟨k, hk, rfl⟩ := hj
  exact emittedIndex_lt_srcLen s ch hc k (List.mem_range.1 hk)

/-- A target length that passes the checks fits the buffers: a new one is compared with `TLEN_MAX`, a latched one was
when it was latched (R137, R138). -/
theorem targetLength_le_tlenMax (hc : checkResample ch s = none) (hinv : s.Invariant) :
    targetLength s ≤ s.cfg.tlenMax := by
  obtain ⟨-, hlatched, hfits, -, -⟩ := checkResample_none s ch hc
  cases hv : s.tlenValid with
  | true => exact hlatched hv ▸ hinv.tlenFits
  | false => exact hfits hv

/-- Settles O18: each faulting clause is one failing check; when none fails, the closed form bounds the indices. -/
theorem resampleChecksInOrder : Obligations.ResampleChecksInOrder := by
  refine ⟨fun T O M => rfl, fun s ch hc => ⟨fun j hj => ?inRange, targetLength_le_tlenMax s ch hc⟩, ?faults⟩
  case inRange =>
    obtain ⟨-, -, -, hlen, -⟩ := checkResample_none s ch hc
    have hlt := lt_srcLen_of_mem_resampleIndices s ch hc j hj
    exact ⟨hlt, hlt.trans_le hlen⟩
  case faults =>
    rintro s ch _ hf rfl
    refine ⟨fun h => ?config, fun hF hv h => ?changed, fun hF hv h => ?capacity, fun hF hl hm h => ?overflow,
      fun hF hl hm hlen hT h => ?underrun⟩
    case config => exact exec_resample_of_check s ch _ hf (checkResample_of_chipFreq_zero s ch h)
    case changed => exact exec_resample_of_check s ch _ hf (checkResample_of_rate_changed s ch hF hv h)
    case capacity => exact exec_resample_of_check s ch _ hf (checkResample_of_tlen_capacity s ch hF hv h)
    case overflow => exact exec_resample_of_check s ch _ hf (checkResample_of_overflow s ch hF hl hm h)
    case underrun => exact exec_resample_of_check s ch _ hf (checkResample_of_underrun s ch hF hl hm hlen hT h)

/-! ## The effect -/

section

variable (m : Mem 8)

@[simp] theorem rsMem_commitRs : rsMem ch (s.commitRs ch m) = m := by cases ch <;> rfl
@[simp] theorem rsValid_commitRs : rsValid ch (s.commitRs ch m) = true := by cases ch <;> rfl
@[simp] theorem State.commitRs_src0 : (s.commitRs ch m).src0 = s.src0 := by cases ch <;> rfl
@[simp] theorem State.commitRs_src1 : (s.commitRs ch m).src1 = s.src1 := by cases ch <;> rfl
@[simp] theorem State.commitRs_tlen : (s.commitRs ch m).tlen = s.tlen := by cases ch <;> rfl
@[simp] theorem State.commitRs_tlenValid : (s.commitRs ch m).tlenValid = s.tlenValid := by cases ch <;> rfl

end

/-- A `RESAMPLE` that answers a state without a fault has passed its checks and had its effect (R135). -/
theorem exec_resample_next (h : exec (.resample ch) s = .next t) (hf : t.faulted = false) :
    checkResample ch s = none ∧ ∃ vs, resampled ch s = .ok vs ∧
      t = (s.latchTlen (BitVec.ofNat 32 (targetLength s))).commitRs ch ((rsMem ch s).writeRun 0 vs) := by
  obtain ⟨hs, rfl⟩ | ⟨-, c, -, rfl⟩ | ⟨-, hc, he⟩ := exec_next s t _ h
  · simp [hs] at hf
  · simp at hf
  · exact ⟨hc, resampleEffect_ok s t ch he⟩

/-- The latched length is the target length: a latched one that differs fails the second check (R137, R138). -/
theorem latchTlen_targetLength (hc : checkResample ch s = none) :
    (s.latchTlen (BitVec.ofNat 32 (targetLength s))).tlen.toNat = targetLength s := by
  obtain ⟨-, hlatched, -⟩ := checkResample_none s ch hc
  cases hv : s.tlenValid with
  | true => rw [State.latchTlen_of_valid s _ hv, hlatched hv]
  | false =>
    rw [State.latchTlen_of_not_valid s _ hv, BitVec.toNat_ofNat, Nat.mod_eq_of_lt (targetLength_lt s)]

/-- The samples of a `RESAMPLE` are `T` written source elements, sample `k` at the closed form of its index (R139,
R140). -/
theorem resampled_ok (vs : List Byte) (h : resampled ch s = .ok vs) :
    vs.length = targetLength s ∧ ∀ k < targetLength s, ∃ v,
      (srcMem ch s).read (emittedIndex s.outRate.toNat (sourceRate s) k) = some v ∧ vs[k]? = some v := by
  rw [resampled, resampleIndices_eq] at h
  obtain ⟨hlen, hget⟩ := collect_ok _ _ _ h
  simp only [List.length_map, List.length_range] at hlen hget
  refine ⟨hlen, fun k hk => ?_⟩
  obtain ⟨v, hv, hvs⟩ := hget k hk
  rw [List.getElem_map, List.getElem_range, element_eq_ok] at hv
  exact ⟨v, hv, hvs⟩

/-- Settles O22: the samples are source elements below the length, and they are written at the first `T` elements. -/
theorem resampleCopiesSourceElements : Obligations.ResampleCopiesSourceElements := by
  rintro s t ch _ hexec hf rfl
  obtain ⟨hc, vs, hvs, rfl⟩ := exec_resample_next s t ch hexec hf
  obtain ⟨hlen, hget⟩ := resampled_ok s ch vs hvs
  rw [rsMem_commitRs, State.commitRs_tlen]
  have hcopy : ∀ k < targetLength s, ∃ j < (srcLen ch s).toNat, ∃ v,
      (srcMem ch s).read j = some v ∧ ((rsMem ch s).writeRun 0 vs).read k = some v := by
    intro k hk
    obtain ⟨v, hsrc, hv⟩ := hget k hk
    have hrun := Mem.read_writeRun_mem (rsMem ch s) 0 vs k (hlen ▸ hk)
    exact ⟨_, emittedIndex_lt_srcLen s ch hc k hk, v, hsrc, by rw [← hv, ← hrun, Nat.zero_add]⟩
  refine ⟨hcopy, fun k hk => ?beyond, by simp, by simp, rsValid_commitRs _ ch _, by simp,
    latchTlen_targetLength s ch hc, fun hT => ?empty, fun v hconst k hk => ?constant⟩
  case beyond =>
    exact Mem.read_writeRun_of_not_mem _ 0 vs k (.inr (by rw [Nat.zero_add, hlen]; exact hk))
  case empty =>
    rw [List.length_eq_zero_iff.1 (hlen.trans hT), Mem.writeRun_nil]
  case constant =>
    obtain ⟨j, hj, u, hsrc, hread⟩ := hcopy k hk
    rw [hread, hconst j hj u hsrc]

end Sys2Proof.Machine
end

section
/-! PROOFS, 43_mixer.md, the mean. The mean of two bytes is a byte, so `mix2` does not wrap, and what R156 says of it is
said of the mean on naturals. -/

namespace Sys2Proof.Machine

/-- R156: the mean of two bytes fits in a byte, so nothing is lost. -/
@[simp] theorem toNat_mix2 (a b : Byte) : (mix2 a b).toNat = (a.toNat + b.toNat) / 2 := by
  have hmean : (a.toNat + b.toNat) / 2 < 2 ^ 8 := by
    have ha := a.isLt
    have hb := b.isLt
    omega
  rw [mix2, BitVec.toNat_ofNat, Nat.mod_eq_of_lt hmean]

theorem mix2_comm (a b : Byte) : mix2 a b = mix2 b a := by
  rw [mix2, mix2, Nat.add_comm]

theorem min_le_toNat_mix2 (a b : Byte) : min a.toNat b.toNat ≤ (mix2 a b).toNat := by
  rw [toNat_mix2]
  omega

theorem toNat_mix2_le_max (a b : Byte) : (mix2 a b).toNat ≤ max a.toNat b.toNat := by
  rw [toNat_mix2]
  omega

/-- Settles O26: the shift by one is the division by two, and the rule's examples evaluate. -/
theorem mix2IsTheFloorOfTheMean : Obligations.Mix2IsTheFloorOfTheMean := by
  refine ⟨fun a b => ⟨toNat_mix2 a b, ?shift, mix2_comm a b, min_le_toNat_mix2 a b, toNat_mix2_le_max a b⟩, ?examples⟩
  case shift => rw [toNat_mix2, Nat.shiftRight_eq_div_pow, Nat.pow_one]
  case examples => decide

end Sys2Proof.Machine
end

section
/-! PROOFS, 44_widener.md, the conversion (R166). The sample is the byte above eight zeros, so as a natural number and as
a two's-complement number it is 256 times the byte read the same way; the frame is the sample in each half. -/

namespace Sys2Proof.Machine

@[simp] theorem toNat_s16 (v : Byte) : (s16 v).toNat = v.toNat * 256 :=
  calc (s16 v).toNat
    _ = v.toNat <<< 8 := toNat_append_zero v
    _ = v.toNat * 256 := Nat.shiftLeft_eq v.toNat 8

/-- R166's "reinterpreted, not re-centred": the sign of the sample is the top bit of the byte. -/
theorem toInt_s16 (v : Byte) : (s16 v).toInt = 256 * v.toInt := BitVec.toInt_append_zero

theorem toInt_s16_of_le (v : Byte) (h : v.toNat ≤ 0x7F) : (s16 v).toInt = 256 * v.toNat := by
  have hv : v.toInt = v.toNat := BitVec.toInt_eq_toNat_of_lt (by omega)
  rw [toInt_s16, hv]

theorem toInt_s16_of_ge (v : Byte) (h : 0x80 ≤ v.toNat) : (s16 v).toInt = 256 * v.toNat - 65536 := by
  have hv : v.toInt = v.toNat - 256 := by
    rw [BitVec.toInt_eq_toNat_cond, if_neg (by omega)]
    rfl
  rw [toInt_s16, hv]
  omega

/-- The halves of the frame occupy disjoint bits, so the concatenation reads as a sum. -/
@[simp] theorem toNat_frame (v : Byte) : (frame v).toNat = v.toNat * 2 ^ 24 + v.toNat * 2 ^ 8 := by
  have hsum : (frame v).toNat = (s16 v).toNat <<< 16 + (s16 v).toNat := by
    rw [frame, BitVec.toNat_append, ← Nat.shiftLeft_add_eq_or_of_lt (s16 v).isLt]
  rw [hsum, toNat_s16, Nat.shiftLeft_eq]
  omega

theorem extractLsb_frame_upper (v : Byte) : (frame v).extractLsb 31 16 = s16 v := BitVec.extractLsb'_append_eq_left

theorem extractLsb_frame_lower (v : Byte) : (frame v).extractLsb 15 0 = s16 v := BitVec.extractLsb'_append_eq_right

/-- Settles O29: the sample's two readings, the frame's sum and its two lanes. -/
theorem frameHoldsTheSampleInBothLanes : Obligations.FrameHoldsTheSampleInBothLanes := fun v =>
  ⟨toNat_s16 v, toInt_s16_of_le v, toInt_s16_of_ge v, toNat_frame v, extractLsb_frame_upper v, extractLsb_frame_lower v⟩

end Sys2Proof.Machine
end

section
/-! PROOFS, 45_host_access.md. What one host transaction does: register reads (R176) and writes (R177), the `CMD` write
(R180), the checks of a memory transaction (R181, R184 to R187), memory reads (R182) and writes (R183). Each kind of
transaction has one lemma that says what its step answers; the statements follow from those. -/

namespace Sys2Proof.Machine

variable (s t : State) (rest : List Transaction)

/-! ## What the taken transaction shows -/

@[simp] theorem regRead_dequeue (r : Reg) : regRead (s.dequeue rest) r = regRead s r := by cases r <;> rfl

@[simp] theorem spaceRead_dequeue (space : Space) (i : Nat) :
    spaceRead (s.dequeue rest) space i = spaceRead s space i := by cases space <;> rfl

/-! ## The `CMD` write -/

@[simp] theorem State.commitRs_faulted (ch : Channel) (m : Mem 8) : (s.commitRs ch m).faulted = s.faulted := by
  cases ch <;> rfl

/-- The effect of a command records no fault: the record is written by its checks alone (R203, R204). -/
theorem commandEffect_faulted (i : Instr) (h : commandEffect i s = .ok t) : t.faulted = s.faulted := by
  cases i with
  | palbuild =>
    obtain rfl : buildLut s = t := Except.ok.inj h
    rw [buildLut_eq, State.commitLut_faulted]
  | blit =>
    obtain ⟨rows, -, rfl⟩ := blitEffect_ok s t h
    rw [State.commitBlit_faulted]
  | resample ch =>
    obtain ⟨vs, -, rfl⟩ := resampleEffect_ok s t ch h
    rw [State.commitRs_faulted, State.latchTlen_faulted]
  | mix =>
    obtain ⟨vs, -, rfl⟩ := mixEffect_ok s t h
    rw [State.commitMix_faulted]
  | widen =>
    obtain ⟨vs, -, rfl⟩ := widenEffect_ok s t h
    rw [State.commitOut_faulted]

/-- A fault a command raises records the command's word (R180, R196). -/
theorem errInfo_of_exec_faulted (i : Instr) (hf : s.faulted = false) (h : exec i s = .next t)
    (ht : t.faulted = true) : t.errInfo = encode i := by
  obtain ⟨hs, -⟩ | ⟨-, c, -, rfl⟩ | ⟨-, -, he⟩ := exec_next s t i h
  · rw [hf] at hs
    contradiction
  · exact State.withFaultRecord_errInfo s c.code (encode i)
  · rw [commandEffect_faulted s t i he, hf] at ht
    contradiction

/-- The step of a `CMD` write of a legal word is its command on the state with the transaction taken (R180). -/
theorem step_cmd_of_legal (w : Word) (i : Instr) (hp : s.pending = .wr Reg.cmd.number w :: rest)
    (hf : s.faulted = false) (h : decode w = .ok i) : step s = exec i (s.dequeue rest) := by
  rw [step_wr_of_not_faulted s rest _ w hp hf, writeRegister, if_pos rfl, issueCommand, h]

/-- Settles O5: an illegal word takes the fault of the `CMD` write; a legal one is its command, whose checks record the
only word that decodes to it. -/
theorem cmdWriteIssuesItsCommand : Obligations.CmdWriteIssuesItsCommand := by
  intro s rest w hp hf
  refine ⟨fun e he => step_cmd_of_illegal s rest w hp hf fun i hi => ?_, fun i hi => ?_⟩
  · rw [he] at hi
    contradiction
  · have hstep : step s = exec i (s.dequeue rest) := step_cmd_of_legal s rest w i hp hf hi
    refine ⟨hstep, fun t ht hfaulted => ?_⟩
    rw [errInfo_of_exec_faulted (s.dequeue rest) t i hf (hstep ▸ ht) hfaulted]
    exact ((decode_eq_ok_iff w i).1 hi).symm

/-! ## Register reads -/

theorem step_rd_of_register (r : Reg) (hp : s.pending = .rd r.number :: rest) :
    step s = .next ((s.dequeue rest).withReply (regRead s r)) := by
  simp [step_rd s rest _ hp, hostReadReg]

/-- Bits 31:16 of `STATUS` read as 0 (R25). -/
theorem extractLsb_statusWord_reserved : (statusWord s).extractLsb 31 16 = 0 := by
  refine BitVec.eq_of_getLsbD_eq fun k hk => ?_
  rw [BitVec.getLsbD_extractLsb, statusWord_getLsbD, if_neg (by omega), BitVec.getLsbD_of_ge s.errCode _ (by omega)]
  simp

/-- Bits 15:8 of `STATUS` are `ERRCODE` (R25). -/
theorem extractLsb_statusWord_errCode : (statusWord s).extractLsb 15 8 = s.errCode := by
  refine BitVec.eq_of_getLsbD_eq fun k hk => ?_
  rw [BitVec.getLsbD_extractLsb, statusWord_getLsbD, if_neg (by omega), Nat.add_sub_cancel_left,
    decide_eq_true (by omega), Bool.true_and]

theorem zeroExtend_ofBool (b : Bool) : (BitVec.ofBool b).zeroExtend 32 = if b then 1 else 0 := by
  cases b <;> rfl

/-- Settles O34: the step of a register read answers the register's view of the state, and each view is as R176 lays it
out. -/
theorem registerReadReturnsTheRegister : Obligations.RegisterReadReturnsTheRegister :=
  ⟨fun s rest r hp => step_rd_of_register s rest r hp, fun s =>
    ⟨rfl, extractLsb_statusWord_reserved s, extractLsb_statusWord_errCode s, statusWord_getLsbD s 7,
      statusWord_getLsbD s 6, statusWord_getLsbD s 5, statusWord_getLsbD s 4, statusWord_getLsbD s 3,
      statusWord_getLsbD s 2, statusWord_getLsbD s 1, statusWord_getLsbD s 0, rfl, rfl, rfl, rfl, rfl, rfl, rfl, rfl,
      rfl, rfl, rfl, rfl, rfl, zeroExtend_ofBool s.auxPresent, rfl, rfl, rfl, rfl, rfl, rfl, rfl⟩⟩

/-! ## Register writes -/

/-- Each of the eleven RW registers is stored by its own write and by no other (R177). -/
theorem regWrite_stores (r : Reg) (v : Word) :
    (regWrite s r v).dispTop = (if r = .dispTop then v else s.dispTop) ∧
      (regWrite s r v).visTop = (if r = .visTop then v else s.visTop) ∧
      (regWrite s r v).visLeft = (if r = .visLeft then v else s.visLeft) ∧
      (regWrite s r v).visW = (if r = .visW then v else s.visW) ∧
      (regWrite s r v).visH = (if r = .visH then v else s.visH) ∧
      (regWrite s r v).outRate = (if r = .outRate then v else s.outRate) ∧
      (regWrite s r v).chipFreq = (if r = .chipFreq then v else s.chipFreq) ∧
      (regWrite s r v).scanlines = (if r = .scanlines then v else s.scanlines) ∧
      (regWrite s r v).src0Len = (if r = .src0Len then v else s.src0Len) ∧
      (regWrite s r v).src1Len = (if r = .src1Len then v else s.src1Len) ∧
      (regWrite s r v).auxPresent = (if r = .auxPresent then v.getLsbD 0 else s.auxPresent) := by
  cases r <;> simp [regWrite]

/-- A register write shows in no other register. -/
theorem regRead_regWrite_of_ne (r q : Reg) (v : Word) (h : q ≠ r) :
    regRead (regWrite s r v) q = regRead s q := by
  obtain ⟨dispTop, visTop, visLeft, visW, visH, outRate, chipFreq, scanlines, src0Len, src1Len, auxPresent⟩ :=
    regWrite_stores s r v
  cases q
  case dispTop => exact dispTop.trans (if_neg h.symm)
  case visTop => exact visTop.trans (if_neg h.symm)
  case visLeft => exact visLeft.trans (if_neg h.symm)
  case visW => exact visW.trans (if_neg h.symm)
  case visH => exact visH.trans (if_neg h.symm)
  case outRate => exact outRate.trans (if_neg h.symm)
  case chipFreq => exact chipFreq.trans (if_neg h.symm)
  case scanlines => exact scanlines.trans (if_neg h.symm)
  case src0Len => exact src0Len.trans (if_neg h.symm)
  case src1Len => exact src1Len.trans (if_neg h.symm)
  case auxPresent => simp [regRead, auxPresent, h.symm]
  case status => simp [regRead, statusWord, regWrite_keeps]
  all_goals simp [regRead, regWrite_keeps]

/-- A written RW register reads the value, `AUX_PRESENT` its bit 0 (R177, R23). -/
theorem regRead_regWrite_self (r : Reg) (v : Word) (h : regAccess r = .rw) :
    regRead (regWrite s r v) r = if r = .auxPresent then v &&& 1 else v := by
  cases r
  case auxPresent => exact (BitVec.and_one_eq_setWidth_ofBool_getLsbD (x := v)).symm
  case dispTop | visTop | visLeft | visW | visH | outRate | chipFreq | scanlines | src0Len | src1Len => rfl
  all_goals contradiction

theorem step_wr_of_rw (r : Reg) (v : Word) (hp : s.pending = .wr r.number v :: rest) (hf : s.faulted = false)
    (hr : regAccess r = .rw) : step s = .next (regWrite (s.dequeue rest) r v) := by
  have hcmd : r.number ≠ Reg.cmd.number := fun h => by
    rw [Reg.number_injective r .cmd h] at hr
    contradiction
  rw [step_wr_of_not_faulted s rest _ v hp hf, writeRegister, if_neg hcmd, hostWriteReg, Reg.ofNumber_number]
  exact congrArg _ (if_pos hr)

/-- Settles O36: the step is the store of an RW register, which shows in that register alone and keeps the rest. -/
theorem registerWriteStoresOnlyItsRegister : Obligations.RegisterWriteStoresOnlyItsRegister := by
  intro s rest r v hf hp hr
  have hrw : regAccess r = .rw := by fin_cases hr <;> rfl
  refine ⟨regWrite (s.dequeue rest) r v, step_wr_of_rw s rest r v hp hf hrw,
    regRead_regWrite_self (s.dequeue rest) r v hrw, fun q hq => ?others, ?frame⟩
  case others => rw [regRead_regWrite_of_ne (s.dequeue rest) r q v hq, regRead_dequeue]
  case frame => simp [regWrite_keeps]

/-! ## The checks of a memory transaction -/

section

variable (P : Params) (kind : AccessKind) (space : Space)

theorem Space.ofId_of_le (sp : Nat) (h : 10 ≤ sp) : Space.ofId sp = none := by
  cases hs : Space.ofId sp with
  | none => rfl
  | some space =>
    obtain rfl := Space.id_of_ofId sp space hs
    cases space <;> contradiction

/-- R184: a number of 10 or more names no space. -/
theorem checkMem_of_no_space (sp i : Nat) (h : 10 ≤ sp) : checkMem P kind sp i = .error .addr := by
  rw [checkMem, Space.ofId_of_le sp h]

/-- R186: a space without host W refuses every write, whatever the index. -/
theorem checkMem_write_of_protected (i : Nat) (h : hostWritable space = false) :
    checkMem P .write space.id i = .error .access := by
  rw [checkMem, Space.ofId_id]
  exact if_pos ⟨rfl, h⟩

/-- R187: a write past the end of `SRC0` or `SRC1` has a code of its own. -/
theorem checkMem_write_past_source (i : Nat) (hs : space = .src0 ∨ space = .src1) (h : P.maxSrc ≤ i) :
    checkMem P .write space.id i = .error .resamplerOverflow := by
  have hw : hostWritable space = true := by rcases hs with rfl | rfl <;> rfl
  simp [checkMem, hw, hs, h]

/-- R185: a write past the end of `SURF` or `FB`. -/
theorem checkMem_write_past_end (i : Nat) (hs : space = .surf ∨ space = .fb) (h : spaceSize P space ≤ i) :
    checkMem P .write space.id i = .error .addr := by
  rcases hs with rfl | rfl <;> simp [checkMem, hostWritable, h]

/-- R185: a read past the end of any space. -/
theorem checkMem_read_past_end (i : Nat) (h : spaceSize P space ≤ i) :
    checkMem P .read space.id i = .error .addr := by
  simp [checkMem, h]

/-- The reads R181 refuses, as the space numbers and sizes spell them, are those of no space and those past the end of
one. -/
theorem no_space_or_past_end_of_refused_read (sp i : Nat)
    (h : 10 ≤ sp ∨ (sp ∈ [0, 1] ∧ 256 ≤ i) ∨ (sp = 2 ∧ P.surfSize ≤ i) ∨ (sp = 3 ∧ P.fbStride * P.fbHeight ≤ i) ∨
      (sp ∈ [4, 5] ∧ P.maxSrc ≤ i) ∨ (sp ∈ [6, 7, 8, 9] ∧ P.tlenMax ≤ i)) :
    10 ≤ sp ∨ ∃ space : Space, space.id = sp ∧ spaceSize P space ≤ i := by
  obtain hsp | ⟨hsp, hi⟩ | ⟨rfl, hi⟩ | ⟨rfl, hi⟩ | ⟨hsp, hi⟩ | ⟨hsp, hi⟩ := h
  · exact .inl hsp
  · fin_cases hsp
    exacts [.inr ⟨.palrom, rfl, hi⟩, .inr ⟨.lut, rfl, hi⟩]
  · exact .inr ⟨.surf, rfl, hi⟩
  · exact .inr ⟨.fb, rfl, hi⟩
  · fin_cases hsp
    exacts [.inr ⟨.src0, rfl, hi⟩, .inr ⟨.src1, rfl, hi⟩]
  · fin_cases hsp
    exacts [.inr ⟨.rs0, rfl, hi⟩, .inr ⟨.rs1, rfl, hi⟩, .inr ⟨.mixb, rfl, hi⟩, .inr ⟨.out, rfl, hi⟩]

/-- An index inside the space passes every check, on a write if the space has host W (R181). -/
theorem checkMem_of_inside (i : Nat) (h : i < spaceSize P space) (hw : kind = .write → hostWritable space = true) :
    checkMem P kind space.id i = .ok space := by
  have haccess : ¬(kind = .write ∧ hostWritable space = false) := fun ⟨hk, hn⟩ => by
    rw [hw hk] at hn
    contradiction
  have hsource : ¬(kind = .write ∧ (space = .src0 ∨ space = .src1) ∧ P.maxSrc ≤ i) := by
    rintro ⟨-, rfl | rfl, hi⟩ <;> exact absurd h (not_lt.2 hi)
  rw [checkMem, Space.ofId_id]
  exact (if_neg haccess).trans ((if_neg hsource).trans (if_neg (not_le.2 h)))

end

/-! ## The step of a memory transaction -/

theorem step_rm (sp : Nat) (i : Word) (hp : s.pending = .rm sp i :: rest) :
    step s = .next (hostReadMem (s.dequeue rest) sp i) :=
  step_of_pending s _ rest hp

theorem step_wm_of_not_faulted (sp : Nat) (i v : Word) (hp : s.pending = .wm sp i v :: rest)
    (hf : s.faulted = false) : step s = .next (hostWriteMem (s.dequeue rest) sp i v) := by
  simp [step_of_pending s _ rest hp, transact, hf]

/-- A memory write that fails a check stores nothing and records the index. -/
theorem step_wm_of_error (sp : Nat) (i v : Word) (c : ErrCode) (hp : s.pending = .wm sp i v :: rest)
    (hf : s.faulted = false) (hc : checkMem s.cfg .write sp i.toNat = .error c) :
    step s = .next ((s.dequeue rest).withFaultRecord c.code i) := by
  rw [step_wm_of_not_faulted s rest sp i v hp hf, hostWriteMem, State.dequeue_cfg, hc]
  exact congrArg _ (State.takeFault_of_not_faulted (s.dequeue rest) c i hf)

/-- A memory read that fails a check returns 0 and records the index. -/
theorem step_rm_of_error (sp : Nat) (i : Word) (c : ErrCode) (hp : s.pending = .rm sp i :: rest)
    (hf : s.faulted = false) (hc : checkMem s.cfg .read sp i.toNat = .error c) :
    step s = .next (((s.dequeue rest).withReply 0).withFaultRecord c.code i) := by
  rw [step_rm s rest sp i hp, hostReadMem, State.dequeue_cfg, hc]
  exact congrArg _ (State.takeFault_of_not_faulted ((s.dequeue rest).withReply 0) c i hf)

/-- A memory write inside a writable space stores its element (R183). -/
theorem step_wm_of_inside (space : Space) (i v : Word) (hp : s.pending = .wm space.id i v :: rest)
    (hf : s.faulted = false) (hw : hostWritable space = true) (hi : i.toNat < spaceSize s.cfg space) :
    step s = .next (spaceWrite (s.dequeue rest) space i.toNat v) := by
  rw [step_wm_of_not_faulted s rest _ i v hp hf, hostWriteMem, State.dequeue_cfg,
    checkMem_of_inside s.cfg .write space i.toNat hi fun _ => hw]

/-- A memory read inside its space returns what the host sees of the element, in every state (R182). -/
theorem step_rm_of_inside (space : Space) (i : Word) (hp : s.pending = .rm space.id i :: rest)
    (hi : i.toNat < spaceSize s.cfg space) :
    step s = .next ((s.dequeue rest).withReply (hostElement (s.dequeue rest) space i.toNat)) := by
  rw [step_rm s rest _ i hp, hostReadMem, State.dequeue_cfg,
    checkMem_of_inside s.cfg .read space i.toNat hi (by simp)]

/-- Of a written element the host sees the element (R182). -/
theorem step_rm_of_written (space : Space) (i v : Word) (hp : s.pending = .rm space.id i :: rest)
    (hi : i.toNat < spaceSize s.cfg space) (hv : spaceRead s space i.toNat = some v) :
    step s = .next ((s.dequeue rest).withReply v) := by
  rw [step_rm_of_inside s rest space i hp hi, hostElement, spaceRead_dequeue, hv]

/-- Settles O39: the premises of each clause are those of one check, which records its code and the index. -/
theorem memoryTransactionChecksInOrder : Obligations.MemoryTransactionChecksInOrder := by
  intro s rest sp i v hf
  constructor
  · intro hp
    have hfault := fun c => step_wm_of_error s rest sp i v c hp hf
    refine ⟨fun hsp => ?noSpace, fun hsp => ?protectedSpace, fun hsp hi => ?pastSource, fun hsp hi => ?pastSurf,
      fun hsp hi => ?pastFb⟩
    case noSpace => exact hfault .addr (checkMem_of_no_space _ _ sp _ hsp)
    case protectedSpace =>
      obtain ⟨space, rfl, hw⟩ : ∃ space : Space, space.id = sp ∧ hostWritable space = false := by
        fin_cases hsp
        exacts [⟨.palrom, rfl, rfl⟩, ⟨.lut, rfl, rfl⟩, ⟨.rs0, rfl, rfl⟩, ⟨.rs1, rfl, rfl⟩, ⟨.mixb, rfl, rfl⟩,
          ⟨.out, rfl, rfl⟩]
      exact hfault .access (checkMem_write_of_protected _ space _ hw)
    case pastSource =>
      obtain ⟨space, rfl, hs⟩ : ∃ space : Space, space.id = sp ∧ (space = .src0 ∨ space = .src1) := by
        fin_cases hsp
        exacts [⟨.src0, rfl, .inl rfl⟩, ⟨.src1, rfl, .inr rfl⟩]
      exact hfault .resamplerOverflow (checkMem_write_past_source _ space _ hs hi)
    case pastSurf =>
      subst hsp
      exact hfault .addr (checkMem_write_past_end _ .surf _ (.inl rfl) hi)
    case pastFb =>
      subst hsp
      exact hfault .addr (checkMem_write_past_end _ .fb _ (.inr rfl) hi)
  · intro hp hbad
    refine step_rm_of_error s rest sp i .addr hp hf ?_
    obtain hsp | ⟨space, rfl, hi⟩ := no_space_or_past_end_of_refused_read s.cfg sp i.toNat hbad
    · exact checkMem_of_no_space _ _ sp _ hsp
    · exact checkMem_read_past_end _ space _ hi

/-! ## Memory reads -/

/-- Settles O40: each clause is the read of a written element of one space, or of any element of any space. -/
theorem memoryReadReturnsTheElement : Obligations.MemoryReadReturnsTheElement := by
  intro s rest i
  refine ⟨fun h c hc hp => ?palrom, fun e hi he hp => ?lut, fun e hi he hp => ?surf, fun e hi he hp => ?fb,
    fun e hi he hp => ?src0, fun e hi he hp => ?src1, fun e hi he hp => ?rs0, fun e hi he hp => ?rs1,
    fun e hi he hp => ?mixb, fun e hi he hp => ?out, fun space hi hp => ?unwritten⟩
  case palrom =>
    exact step_rm_of_written s rest .palrom i _ hp h (hc ▸ spaceRead_palrom s i.toNat h)
  case lut => exact step_rm_of_written s rest .lut i _ hp hi (congrArg (Option.map _) he)
  case surf => exact step_rm_of_written s rest .surf i _ hp hi (congrArg (Option.map _) he)
  case fb => exact step_rm_of_written s rest .fb i _ hp hi (congrArg (Option.map _) he)
  case src0 => exact step_rm_of_written s rest .src0 i _ hp hi (congrArg (Option.map _) he)
  case src1 => exact step_rm_of_written s rest .src1 i _ hp hi (congrArg (Option.map _) he)
  case rs0 => exact step_rm_of_written s rest .rs0 i _ hp hi (congrArg (Option.map _) he)
  case rs1 => exact step_rm_of_written s rest .rs1 i _ hp hi (congrArg (Option.map _) he)
  case mixb => exact step_rm_of_written s rest .mixb i _ hp hi (congrArg (Option.map _) he)
  case out => exact step_rm_of_written s rest .out i _ hp hi he
  case unwritten => exact ⟨_, step_rm_of_inside s rest space i hp hi⟩

/-! ## Memory writes -/

/-- A truncated value, written, reads as the value's low bits, and every other element reads as before. -/
theorem Mem.read_write_truncate (top : Nat) (htop : top + 1 ≤ 32) (m : Mem (top + 1)) (i : Nat) (v : Word) :
    (m.write i (v.truncate (top + 1))).read i = some (v.extractLsb top 0) ∧
      ∀ k, k ≠ i → (m.write i (v.truncate (top + 1))).read k = m.read k := by
  refine ⟨?_, fun k hk => Mem.read_write_of_ne m i k _ hk⟩
  rw [Mem.read_write_self]
  exact congrArg some (BitVec.setWidth_eq_extractLsb' htop)

/-- Settles O41: the step is the store of one element, `trunc_N` of the value being its low `N` bits. -/
theorem memoryWriteStoresOneElement : Obligations.MemoryWriteStoresOneElement := by
  intro s rest i v hf
  refine ⟨fun hp hi => ?surf, fun hp hi => ?fb, fun hp hi => ?src0, fun hp hi => ?src1⟩
  case surf => exact ⟨_, step_wm_of_inside s rest .surf i v hp hf rfl hi, rfl,
    Mem.read_write_truncate 7 (by decide) _ _ v⟩
  case fb => exact ⟨_, step_wm_of_inside s rest .fb i v hp hf rfl hi, rfl,
    Mem.read_write_truncate 15 (by decide) _ _ v⟩
  case src0 => exact ⟨_, step_wm_of_inside s rest .src0 i v hp hf rfl hi, rfl,
    Mem.read_write_truncate 7 (by decide) _ _ v⟩
  case src1 => exact ⟨_, step_wm_of_inside s rest .src1 i v hp hf rfl hi, rfl,
    Mem.read_write_truncate 7 (by decide) _ _ v⟩

end Sys2Proof.Machine
end

section
/-! PROOFS, 60_exceptions.md. When `MIX` and `WIDEN` fault (R198), what a step that raises the first fault changes (R203,
R204), and what a FAULTED block still does (R206). Of a step that enters the FAULTED state the cases of `Performed` leave
those that write the fault record: every other transaction keeps `FAULT` as it is. -/

namespace Sys2Proof.Machine

variable (s t : State) (rest : List Transaction)

/-! ## Commands out of sequence -/

/-- A command that fails its check records the code with the command word (R196, R203). -/
theorem exec_of_check (i : Instr) (c : ErrCode) (hf : s.faulted = false) (hc : commandCheck i s = some c) :
    exec i s = .next (s.withFaultRecord c.code (encode i)) :=
  (exec_eq_runCommand s i).trans (runCommand_of_check i _ _ s c hf hc)

theorem checkMix_of_rs0_missing (h : s.rs0Valid = false) : checkMix s = some .sequence :=
  if_pos h

/-- A missing auxiliary stream has the code of a missing primary one, so the order of the checks does not show. -/
theorem checkMix_of_rs1_missing (ha : s.auxPresent = true) (h : s.rs1Valid = false) :
    checkMix s = some .sequence := by
  rw [checkMix, if_pos (And.intro ha h), ite_self]

theorem checkWiden_of_mix_missing (h : s.mixValid = false) : checkWiden s = some .sequence :=
  if_pos h

/-- Settles O28: each cause fails the check of its command. -/
theorem commandsOutOfSequenceFault : Obligations.CommandsOutOfSequenceFault := by
  intro s hf
  refine ⟨?mix, fun hmix => ?widen⟩
  case mix =>
    rintro (hrs0 | ⟨haux, hrs1⟩)
    · exact exec_of_check s .mix .sequence hf (checkMix_of_rs0_missing s hrs0)
    · exact exec_of_check s .mix .sequence hf (checkMix_of_rs1_missing s haux hrs1)
  case widen => exact exec_of_check s .widen .sequence hf (checkWiden_of_mix_missing s hmix)

/-! ## What `ERRINFO` records of a write -/

theorem faultInfo_wr_cmd (w : Word) : faultInfo (.wr Reg.cmd.number w) = w := by
  rw [faultInfo, if_pos rfl]

theorem faultInfo_wr_of_ne (n v : Word) (h : n ≠ Reg.cmd.number) : faultInfo (.wr n v) = n :=
  if_neg h

/-! ## Entering the FAULTED state -/

theorem regWrite_faulted (r : Reg) (v : Word) : (regWrite s r v).faulted = s.faulted := by
  cases r <;> rfl

theorem spaceWrite_faulted (space : Space) (i : Nat) (v : Word) : (spaceWrite s space i v).faulted = s.faulted := by
  cases space <;> rfl

/-- A command that enters the FAULTED state has failed a check: it writes the fault record and nothing else (R204). -/
theorem exec_enters_fault (i : Instr) (hf : s.faulted = false) (h : exec i s = .next t) (ht : t.faulted = true) :
    ∃ c : ErrCode, t = s.withFaultRecord c.code (encode i) := by
  obtain ⟨hs, -⟩ | ⟨-, c, -, hrecord⟩ | ⟨-, -, he⟩ := exec_next s t i h
  · exact absurd hs (Bool.eq_false_iff.1 hf)
  · exact ⟨c, hrecord⟩
  · exact absurd ((commandEffect_faulted s t i he).symm.trans ht) (Bool.eq_false_iff.1 hf)

/-- A transaction that enters the FAULTED state answers, where it is a read, and writes the fault record (R203, R204). -/
theorem Performed.enters_fault (x : Transaction) (h : Performed s t x) (hf : s.faulted = false)
    (ht : t.faulted = true) :
    ∃ c : ErrCode, t = { s with reply := t.reply }.withFaultRecord c.code (faultInfo x) := by
  have hkept : t.faulted ≠ s.faulted := by simp [hf, ht]
  cases h with
  | illegal w _ _ _ hu => exact ⟨.illegalCmd, by rw [hu, faultInfo_wr_cmd]; rfl⟩
  | command w i _ hw hx =>
    obtain ⟨c, hu⟩ := exec_enters_fault s t i hf hx ht
    exact ⟨c, by rw [hu, faultInfo_wr_cmd, (decode_eq_ok_iff w i).1 hw]; rfl⟩
  | undefinedWr n v _ hn hu =>
    have hcmd : n ≠ Reg.cmd.number := Reg.number_ne_of_ofNumber_eq_none n hn .cmd
    exact ⟨.addr, by rw [hu, faultInfo_wr_of_ne n v hcmd]; rfl⟩
  | readOnlyWr r v _ hr hu =>
    have hcmd : r.number ≠ Reg.cmd.number := fun hnum => by
      rw [Reg.number_injective r .cmd hnum] at hr
      contradiction
    exact ⟨.access, by rw [hu, faultInfo_wr_of_ne r.number v hcmd]; rfl⟩
  | undefinedRd n _ hu =>
    exact ⟨.addr, by rw [hu, State.takeFault_of_not_faulted (s.withReply 0) _ _ hf]; rfl⟩
  | failedWm sp i v c _ _ hu => exact ⟨c, by rw [hu]; rfl⟩
  | failedRm sp i c _ hu =>
    exact ⟨c, by rw [hu, State.takeFault_of_not_faulted (s.withReply 0) _ _ hf]; rfl⟩
  | wroteReg r v _ _ hu => exact absurd (hu ▸ regWrite_faulted s r v) hkept
  | wroteMem space i v _ _ _ hu => exact absurd (hu ▸ spaceWrite_faulted s space i.toNat v) hkept
  | reset hu =>
    rw [hu] at ht
    contradiction
  | ignoredWr _ _ _ hu | ignoredWm _ _ _ _ hu | readReg _ hu | readMem _ _ _ hu => exact absurd (hu ▸ rfl) hkept

/-- Settles O46: an idle step keeps `FAULT`, and a transaction that sets it writes the fault record of its kind. -/
theorem faultEntryChangesOnlyTheRecord : Obligations.FaultEntryChangesOnlyTheRecord := by
  intro s t hf hst ht
  obtain ⟨-, rfl⟩ | ⟨x, rest, hp, hx⟩ := step_cases s t hst
  · exact absurd ht (Bool.eq_false_iff.1 hf)
  · obtain ⟨c, hc⟩ := Performed.enters_fault (s.dequeue rest) t x hx hf ht
    exact ⟨x, rest, c, hp, hc⟩

/-! ## The FAULTED state -/

theorem step_wr_of_faulted (n v : Word) (hp : s.pending = .wr n v :: rest) (hf : s.faulted = true) :
    step s = .next (s.dequeue rest) :=
  (step_of_pending s _ rest hp).trans (if_pos hf)

theorem step_wm_of_faulted (sp : Nat) (i v : Word) (hp : s.pending = .wm sp i v :: rest) (hf : s.faulted = true) :
    step s = .next (s.dequeue rest) :=
  (step_of_pending s _ rest hp).trans (if_pos hf)

/-- A FAULTED block answers 0 to the read of an undefined register number and keeps its fault record. -/
theorem step_rd_of_undefined_of_faulted (n : Word) (hn : Reg.ofNumber n = none) (hp : s.pending = .rd n :: rest)
    (hf : s.faulted = true) : step s = .next ((s.dequeue rest).withReply 0) := by
  rw [step_rd s rest n hp, hostReadReg_of_undefined _ n hn,
    State.takeFault_of_faulted ((s.dequeue rest).withReply 0) _ _ hf]

/-- A FAULTED block answers 0 to a memory read that fails a check and keeps its fault record. -/
theorem step_rm_of_error_of_faulted (sp : Nat) (i : Word) (c : ErrCode) (hp : s.pending = .rm sp i :: rest)
    (hf : s.faulted = true) (hc : checkMem s.cfg .read sp i.toNat = .error c) :
    step s = .next ((s.dequeue rest).withReply 0) := by
  rw [step_rm s rest sp i hp, hostReadMem, State.dequeue_cfg, hc]
  exact congrArg _ (State.takeFault_of_faulted ((s.dequeue rest).withReply 0) c i hf)

theorem hostElement_of_written (space : Space) (i : Nat) (v : Word) (h : spaceRead s space i = some v) :
    hostElement s space i = v := by
  rw [hostElement, h]

/-- Settles O47: each clause is the step of one kind of transaction on a FAULTED block. -/
theorem faultedBlockIsFrozenUntilReset : Obligations.FaultedBlockIsFrozenUntilReset := by
  intro s rest hf
  refine ⟨fun n v hp => ?registerWrite, fun sp i v hp => ?memoryWrite, fun r hp => ?registerRead,
    fun space i hi hp => ?memoryRead, fun n hn hp => ?undefinedRead, fun sp i hbad hp => ?refusedRead,
    fun hp => ?reset⟩
  case registerWrite => exact step_wr_of_faulted s rest n v hp hf
  case memoryWrite => exact step_wm_of_faulted s rest sp i v hp hf
  case registerRead => exact step_rd_of_register s rest r hp
  case memoryRead =>
    refine ⟨_, step_rm_of_inside s rest space i hp hi, fun e he => ?_⟩
    exact hostElement_of_written (s.dequeue rest) space i.toNat e ((spaceRead_dequeue s rest space _).trans he)
  case undefinedRead => exact step_rd_of_undefined_of_faulted s rest n hn hp hf
  case refusedRead =>
    refine step_rm_of_error_of_faulted s rest sp i .addr hp hf ?_
    obtain hsp | ⟨space, hspace, hi⟩ := hbad
    · exact checkMem_of_no_space _ _ sp _ hsp
    · obtain rfl := Space.id_of_ofId sp space hspace
      exact checkMem_read_past_end _ space _ hi
  case reset => exact step_reset s rest hp

end Sys2Proof.Machine
end

section
/-! PROOFS, 00_scope.md and 30_encoding.md, what a step does at all: the six words decode (R92), a step without a
transaction keeps the state (R8), a legal `CMD` write is its command, and no step is refused. -/

namespace Sys2Proof.Machine

variable (s : State)

/-- Settles O1: the words are those of `encode`. -/
theorem legalWordsDecode : Obligations.LegalWordsDecode :=
  ⟨decode_encode .palbuild, decode_encode .blit, decode_encode (.resample .primary),
    decode_encode (.resample .auxiliary), decode_encode .mix, decode_encode .widen⟩

/-- Settles O6. -/
theorem idleBlockKeepsItsState : Obligations.IdleBlockKeepsItsState := step_idle

theorem exec_of_faulted (i : Instr) (hf : s.faulted = true) : exec i s = .next s :=
  (exec_eq_runCommand s i).trans (runCommand_of_faulted _ _ _ _ hf)

/-- Settles O4: a FAULTED block ignores the write, and the command itself does nothing; otherwise R180. -/
theorem stepRunsTheIssuedCommand : Obligations.StepRunsTheIssuedCommand := by
  intro s rest w i hp hw
  obtain hf | hf := Bool.eq_false_or_eq_true s.faulted
  · exact (step_wr_of_faulted s rest _ w hp hf).trans (exec_of_faulted (s.dequeue rest) i hf).symm
  · exact step_cmd_of_legal s rest w i hp hf hw

theorem exec_ne_refused (i : Instr) (r : Refusal) : exec i s ≠ .refused r := by
  rw [exec_eq_runCommand]
  exact runCommand_ne_refused _ _ _ s r

theorem issueCommand_ne_refused (w : Word) (r : Refusal) : issueCommand s w ≠ .refused r := by
  unfold issueCommand
  split
  · exact nofun
  · exact exec_ne_refused s _ r

theorem transact_ne_refused (x : Transaction) (r : Refusal) : transact x s ≠ .refused r := by
  cases x with
  | wr n v =>
    simp only [transact, writeRegister]
    split_ifs
    · exact nofun
    · exact issueCommand_ne_refused s v r
    · exact nofun
  | wm sp i v =>
    simp only [transact]
    split_ifs <;> exact nofun
  | rd _ | rm _ _ | reset => exact nofun

/-- Settles O7: only a command could be refused, and none is. -/
theorem stepIsNeverRefused : Obligations.StepIsNeverRefused := by
  intro s r
  cases hp : s.pending with
  | nil =>
    rw [step_idle s hp]
    exact nofun
  | cons x rest =>
    rw [step_of_pending s x rest hp]
    exact transact_ne_refused _ x r

end Sys2Proof.Machine
end

section
/-! PROOFS, 10_state.md, what a step can change. `Changed` lists the kinds of change a step can make, `step_changed` says
that there are no others; the parameters stay (R29), no flag is cleared but by `RESET` (R188), each flag is set by its
own command (R30), and the memory stays canonical (log 9). -/

namespace Sys2Proof.Machine

/-! ## The kinds of change -/

/-- How the state `t` that a step answers differs from `s`, apart from the host's side: not at all, in the fault record, in
one register, in one element, by the effect of a command whose checks passed, or by a reset. -/
inductive Changed (s t : State) : Prop
  | nothing (ts : List Transaction) (r : Option Word) : t = { s with pending := ts, reply := r } → Changed s t
  | record (ts : List Transaction) (r : Option Word) (c : ErrCode) (info : Word) : s.faulted = false →
      t = { s with pending := ts, reply := r }.withFaultRecord c.code info → Changed s t
  | register (rest : List Transaction) (q : Reg) (v : Word) : t = regWrite (s.dequeue rest) q v → Changed s t
  | element (rest : List Transaction) (space : Space) (i : Nat) (v : Word) : hostWritable space = true →
      i < spaceSize s.cfg space → t = spaceWrite (s.dequeue rest) space i v → Changed s t
  | command (rest : List Transaction) (i : Instr) : s.pending = .wr Reg.cmd.number (encode i) :: rest →
      commandCheck i (s.dequeue rest) = none → commandEffect i (s.dequeue rest) = .ok t → Changed s t
  | reset (rest : List Transaction) : s.pending = .reset :: rest → t = (s.dequeue rest).afterReset → Changed s t

section

variable (s t : State) (rest : List Transaction)

/-- A fault is recorded, or it is not the first and nothing changes (R203, R206). -/
theorem changed_takeFault (r : Option Word) (c : ErrCode) (info : Word) :
    Changed s (({ s with pending := rest, reply := r } : State).takeFault c info) := by
  obtain hf | hf := Bool.eq_false_or_eq_true s.faulted
  · exact .nothing rest r (State.takeFault_of_faulted { s with pending := rest, reply := r } c info hf)
  · exact .record rest r c info hf (State.takeFault_of_not_faulted { s with pending := rest, reply := r } c info hf)

theorem changed_of_exec (i : Instr) (hp : s.pending = .wr Reg.cmd.number (encode i) :: rest)
    (h : exec i (s.dequeue rest) = .next t) : Changed s t := by
  obtain ⟨-, rfl⟩ | ⟨hf, c, -, rfl⟩ | ⟨-, hc, he⟩ := exec_next _ t i h
  · exact .nothing rest none rfl
  · exact .record rest none c (encode i) hf rfl
  · exact .command rest i hp hc he

theorem changed_of_performed (x : Transaction) (hp : s.pending = x :: rest) (h : Performed (s.dequeue rest) t x) :
    Changed s t := by
  cases h with
  | ignoredWr _ _ _ hu | ignoredWm _ _ _ _ hu => exact .nothing rest none hu
  | readReg r hu => exact .nothing rest (some (regRead (s.dequeue rest) r)) hu
  | readMem space i _ hu => exact .nothing rest (some (hostElement (s.dequeue rest) space i.toNat)) hu
  | illegal w _ hf _ hu => exact .record rest none .illegalCmd w hf hu
  | undefinedWr n _ hf _ hu => exact .record rest none .addr n hf hu
  | readOnlyWr r _ hf _ hu => exact .record rest none .access r.number hf hu
  | failedWm _ i _ c hf _ hu => exact .record rest none c i hf hu
  | undefinedRd n _ hu => exact hu ▸ changed_takeFault s rest (some 0) .addr n
  | failedRm _ i c _ hu => exact hu ▸ changed_takeFault s rest (some 0) c i
  | wroteReg r v _ _ hu => exact .register rest r v hu
  | wroteMem space i v _ hw hi hu => exact .element rest space i.toNat v hw hi hu
  | command w i _ hw hx =>
    obtain rfl := (decode_eq_ok_iff w i).1 hw
    exact changed_of_exec s t rest i hp hx
  | reset hu => exact .reset rest hp hu

/-- Every step that answers a next state makes one of the changes. -/
theorem step_changed (h : step s = .next t) : Changed s t := by
  obtain ⟨-, rfl⟩ | ⟨x, rest, hp, hx⟩ := step_cases s t h
  · exact .nothing t.pending t.reply rfl
  · exact changed_of_performed s t rest x hp hx

/-! ## The effect of a command -/

/-- The state each command's effect answers, with what it has read. -/
inductive Effect (s : State) : Instr → State → Prop
  | palbuild : Effect s .palbuild (buildLut s)
  | blit (rows : List (List Color)) : blitRows s = .ok rows →
      Effect s .blit (s.commitBlit (writeRows s.cfg s.fb 0 rows) s.visW s.visH)
  | resample (ch : Channel) (vs : List Byte) : resampled ch s = .ok vs →
      Effect s (.resample ch)
        ((s.latchTlen (BitVec.ofNat 32 (targetLength s))).commitRs ch ((rsMem ch s).writeRun 0 vs))
  | mix (vs : List Byte) : collect (mixSample s) (List.range s.tlen.toNat) = .ok vs →
      Effect s .mix (s.commitMix (s.mixb.writeRun 0 vs))
  | widen (vs : List Word) : collect (widenSample s) (List.range s.tlen.toNat) = .ok vs →
      Effect s .widen (s.commitOut (s.out.writeRun 0 vs))

theorem effect_of_commandEffect (i : Instr) (h : commandEffect i s = .ok t) : Effect s i t := by
  cases i with
  | palbuild =>
    obtain rfl : buildLut s = t := Except.ok.inj h
    exact .palbuild
  | blit =>
    obtain ⟨rows, hrows, rfl⟩ := blitEffect_ok s t h
    exact .blit rows hrows
  | resample ch =>
    obtain ⟨vs, hvs, rfl⟩ := resampleEffect_ok s t ch h
    exact .resample ch vs hvs
  | mix =>
    obtain ⟨vs, hvs, rfl⟩ := mixEffect_ok s t h
    exact .mix vs hvs
  | widen =>
    obtain ⟨vs, hvs, rfl⟩ := widenEffect_ok s t h
    exact .widen vs hvs

/-! ## The parameters -/

@[simp] theorem State.commitRs_cfg (ch : Channel) (m : Mem 8) : (s.commitRs ch m).cfg = s.cfg := by cases ch <;> rfl

theorem regWrite_cfg (r : Reg) (v : Word) : (regWrite s r v).cfg = s.cfg := by cases r <;> rfl

theorem spaceWrite_cfg (space : Space) (i : Nat) (v : Word) : (spaceWrite s space i v).cfg = s.cfg := by
  cases space <;> rfl

theorem commandEffect_cfg (i : Instr) (h : commandEffect i s = .ok t) : t.cfg = s.cfg := by
  cases effect_of_commandEffect s t i h with
  | resample ch vs _ => rw [State.commitRs_cfg, State.latchTlen_cfg]
  | palbuild | blit | mix | widen => rfl

/-- No step changes a parameter (R20). -/
theorem step_cfg (h : step s = .next t) : t.cfg = s.cfg := by
  cases step_changed s t h with
  | nothing ts r hu => rw [hu]
  | record ts r c info _ hu => rw [hu, State.withFaultRecord_cfg]
  | register rest q v hu => rw [hu, regWrite_cfg, State.dequeue_cfg]
  | element rest space i v _ _ hu => rw [hu, spaceWrite_cfg, State.dequeue_cfg]
  | command rest i _ _ he => rw [commandEffect_cfg _ t i he, State.dequeue_cfg]
  | reset rest _ hu => rw [hu, State.afterReset_cfg, State.dequeue_cfg]

end

/-- Settles O35. -/
theorem cfgRegistersReadTheConstantParameters : Obligations.CfgRegistersReadTheConstantParameters :=
  ⟨fun s => ⟨regRead_toNat_of_cfgParam s _ _ rfl, regRead_toNat_of_cfgParam s _ _ rfl,
    regRead_toNat_of_cfgParam s _ _ rfl, regRead_toNat_of_cfgParam s _ _ rfl, regRead_toNat_of_cfgParam s _ _ rfl,
    regRead_toNat_of_cfgParam s _ _ rfl⟩, step_cfg⟩

/-! ## The valid flags -/

/-- The seven valid flags of R25. -/
inductive Flag where
  | lut
  | video
  | tlen
  | rs0
  | rs1
  | mix
  | out

/-- The value of a valid flag. -/
def State.flag (s : State) : Flag → Bool
  | .lut => s.lutValid
  | .video => s.videoValid
  | .tlen => s.tlenValid
  | .rs0 => s.rs0Valid
  | .rs1 => s.rs1Valid
  | .mix => s.mixValid
  | .out => s.outValid

/-- Whether R25 names a command as one that sets the flag. -/
def Flag.setBy : Flag → Instr → Bool
  | .lut, i => decide (i = .palbuild)
  | .video, i => decide (i = .blit)
  | .tlen, i => decide (i = .resample .primary ∨ i = .resample .auxiliary)
  | .rs0, i => decide (i = .resample .primary)
  | .rs1, i => decide (i = .resample .auxiliary)
  | .mix, i => decide (i = .mix)
  | .out, i => decide (i = .widen)

section

variable (s t : State) (f : Flag)

@[simp] theorem State.flag_regWrite (r : Reg) (v : Word) : (regWrite s r v).flag f = s.flag f := by
  cases f <;> cases r <;> rfl

@[simp] theorem State.flag_spaceWrite (space : Space) (i : Nat) (v : Word) :
    (spaceWrite s space i v).flag f = s.flag f := by
  cases f <;> cases space <;> rfl

@[simp] theorem State.flag_withFaultRecord (c : Byte) (info : Word) : (s.withFaultRecord c info).flag f = s.flag f := by
  cases f <;> rfl

/-- The host's side shows in no flag. -/
@[simp] theorem State.flag_host (ts : List Transaction) (r : Option Word) :
    ({ s with pending := ts, reply := r } : State).flag f = s.flag f := by
  cases f <;> rfl

@[simp] theorem State.flag_dequeue (rest : List Transaction) : (s.dequeue rest).flag f = s.flag f :=
  s.flag_host f rest none

@[simp] theorem State.flag_afterReset : s.afterReset.flag f = false := by
  cases f <;> rfl

/-- The effect of a command sets its own flags and keeps the others (R30). -/
theorem commandEffect_flag (i : Instr) (h : commandEffect i s = .ok t) : t.flag f = (s.flag f || f.setBy i) := by
  cases effect_of_commandEffect s t i h with
  | resample ch vs _ => cases ch <;> cases f <;> simp [State.flag, Flag.setBy, State.commitRs]
  | palbuild | blit | mix | widen => cases f <;> simp [State.flag, Flag.setBy, buildLut_eq]

/-- What a step can do to a valid flag: reset it, set it by a command named for it, or keep it. -/
theorem step_flag_cases (h : step s = .next t) :
    (∃ rest, s.pending = .reset :: rest ∧ t.flag f = false) ∨
    (∃ i rest, f.setBy i = true ∧ s.pending = .wr Reg.cmd.number (encode i) :: rest ∧ t.flag f = true) ∨
    t.flag f = s.flag f := by
  cases step_changed s t h with
  | nothing ts r hu => exact .inr (.inr (by rw [hu, State.flag_host]))
  | record ts r c info _ hu => exact .inr (.inr (by rw [hu, State.flag_withFaultRecord, State.flag_host]))
  | register rest q v hu => exact .inr (.inr (by rw [hu, State.flag_regWrite, State.flag_dequeue]))
  | element rest space i v _ _ hu => exact .inr (.inr (by rw [hu, State.flag_spaceWrite, State.flag_dequeue]))
  | command rest i hp _ he =>
    have hflag := commandEffect_flag (s.dequeue rest) t f i he
    rw [State.flag_dequeue] at hflag
    cases hset : f.setBy i with
    | true => exact .inr (.inl ⟨i, rest, hset, hp, by rw [hflag, hset, Bool.or_true]⟩)
    | false => exact .inr (.inr (by rw [hflag, hset, Bool.or_false]))
  | reset rest hp hu => exact .inl ⟨rest, hp, by rw [hu, State.flag_afterReset]⟩

/-- No transaction but `RESET` clears a valid flag (R30, R188). -/
theorem step_keeps_flag (h : step s = .next t) (hreset : ∀ rest, s.pending ≠ .reset :: rest)
    (hs : s.flag f = true) : t.flag f = true := by
  obtain ⟨rest, hp, -⟩ | ⟨-, -, -, -, ht⟩ | ht := step_flag_cases s t f h
  · exact absurd hp (hreset rest)
  · exact ht
  · exact ht.trans hs

/-- A valid flag is set by a command named for it (R30). -/
theorem step_raises_flag (h : step s = .next t) (hs : s.flag f = false) (ht : t.flag f = true) :
    ∃ i rest, f.setBy i = true ∧ s.pending = .wr Reg.cmd.number (encode i) :: rest := by
  obtain ⟨-, -, hclear⟩ | ⟨i, rest, hset, hp, -⟩ | hkept := step_flag_cases s t f h
  · rw [hclear] at ht
    contradiction
  · exact ⟨i, rest, hset, hp⟩
  · rw [hkept, hs] at ht
    contradiction

/-- A flag that one command alone sets is set by the step that issues it. -/
theorem step_raises_flag_of_unique (i : Instr) (hf : ∀ j, f.setBy j = decide (j = i)) (h : step s = .next t)
    (hs : s.flag f = false) (ht : t.flag f = true) : ∃ rest, s.pending = .wr Reg.cmd.number (encode i) :: rest := by
  obtain ⟨j, rest, hset, hp⟩ := step_raises_flag s t f h hs ht
  obtain rfl : j = i := of_decide_eq_true ((hf j).symm.trans hset)
  exact ⟨rest, hp⟩

end

theorem Flag.exists_channel_of_setBy_tlen (i : Instr) (h : Flag.setBy .tlen i = true) : ∃ ch, i = .resample ch := by
  obtain hi | hi : i = .resample .primary ∨ i = .resample .auxiliary := of_decide_eq_true h
  · exact ⟨.primary, hi⟩
  · exact ⟨.auxiliary, hi⟩

/-- Settles O50: a flag that rises was set by a command R25 names for it. -/
theorem validFlagsAreSetOnlyByTheirCommand : Obligations.ValidFlagsAreSetOnlyByTheirCommand := by
  intro s t h
  have hrise (f : Flag) (i : Instr) (hf : ∀ j, f.setBy j = decide (j = i)) := step_raises_flag_of_unique s t f i hf h
  refine ⟨hrise .lut .palbuild fun _ => rfl, hrise .video .blit fun _ => rfl, fun hs ht => ?tlen,
    hrise .rs0 (.resample .primary) fun _ => rfl, hrise .rs1 (.resample .auxiliary) fun _ => rfl,
    hrise .mix .mix fun _ => rfl, hrise .out .widen fun _ => rfl⟩
  case tlen =>
    obtain ⟨i, rest, hset, hp⟩ := step_raises_flag s t .tlen h hs ht
    obtain ⟨ch, rfl⟩ := Flag.exists_channel_of_setBy_tlen i hset
    exact ⟨ch, rest, hp⟩

/-! ## The latch and the fault record -/

section

variable (s t : State)

theorem regWrite_tlen (r : Reg) (v : Word) : (regWrite s r v).tlen = s.tlen := by cases r <;> rfl

theorem spaceWrite_tlen (space : Space) (i : Nat) (v : Word) : (spaceWrite s space i v).tlen = s.tlen := by
  cases space <;> rfl

/-- Only `RESAMPLE` writes `TLEN`, and it keeps a latched one (R138). -/
theorem commandEffect_tlen (i : Instr) (hv : s.tlenValid = true) (h : commandEffect i s = .ok t) :
    t.tlen = s.tlen := by
  cases effect_of_commandEffect s t i h with
  | resample ch vs _ => rw [State.commitRs_tlen, State.latchTlen_of_valid s _ hv]
  | palbuild | blit | mix | widen => rfl

/-- No transaction but `RESET` changes a latched `TLEN` (R138, R188). -/
theorem step_keeps_tlen (h : step s = .next t) (hreset : ∀ rest, s.pending ≠ .reset :: rest)
    (hv : s.tlenValid = true) : t.tlen = s.tlen := by
  cases step_changed s t h with
  | nothing ts r hu => rw [hu]
  | record ts r c info _ hu => rw [hu, State.withFaultRecord_tlen]
  | register rest q v hu => rw [hu, regWrite_tlen, State.dequeue_tlen]
  | element rest space i v _ _ hu => rw [hu, spaceWrite_tlen, State.dequeue_tlen]
  | command rest i _ _ he => exact commandEffect_tlen (s.dequeue rest) t i hv he
  | reset rest hp _ => exact absurd hp (hreset rest)

/-- The three parts of the fault record (R26). -/
def State.faultRecord (s : State) : Bool × Byte × Word := (s.faulted, s.errCode, s.errInfo)

theorem State.faultRecord_regWrite (r : Reg) (v : Word) : (regWrite s r v).faultRecord = s.faultRecord := by
  cases r <;> rfl

theorem State.faultRecord_spaceWrite (space : Space) (i : Nat) (v : Word) :
    (spaceWrite s space i v).faultRecord = s.faultRecord := by
  cases space <;> rfl

theorem State.faultRecord_commitRs (ch : Channel) (m : Mem 8) : (s.commitRs ch m).faultRecord = s.faultRecord := by
  cases ch <;> rfl

theorem State.faultRecord_latchTlen (v : Word) : (s.latchTlen v).faultRecord = s.faultRecord := by
  simp [State.faultRecord]

/-- The effect of a command records no fault: that is done by its checks (R203). -/
theorem commandEffect_faultRecord (i : Instr) (h : commandEffect i s = .ok t) : t.faultRecord = s.faultRecord := by
  cases effect_of_commandEffect s t i h with
  | resample ch vs _ => rw [State.faultRecord_commitRs, State.faultRecord_latchTlen]
  | palbuild | blit | mix | widen => rfl

/-- No transaction but `RESET` changes the record of a fault (R188, R207). -/
theorem step_keeps_faultRecord (h : step s = .next t) (hreset : ∀ rest, s.pending ≠ .reset :: rest)
    (hf : s.faulted = true) : t.faultRecord = s.faultRecord := by
  cases step_changed s t h with
  | nothing ts r hu => rw [hu]; rfl
  | record ts r c info hnone _ => exact absurd hf (Bool.eq_false_iff.1 hnone)
  | register rest q v hu => rw [hu, State.faultRecord_regWrite]; rfl
  | element rest space i v _ _ hu => rw [hu, State.faultRecord_spaceWrite]; rfl
  | command rest i _ _ he => exact commandEffect_faultRecord (s.dequeue rest) t i he
  | reset rest hp _ => exact absurd hp (hreset rest)

end

/-- Settles O49: flags only rise, and the latch and the fault record are written while they are unset. -/
theorem onlyResetClearsFlagsRecordAndLatch : Obligations.OnlyResetClearsFlagsRecordAndLatch := by
  intro s t h hreset
  have hkeep (f : Flag) := step_keeps_flag s t f h hreset
  refine ⟨hkeep .lut, hkeep .video, hkeep .rs0, hkeep .rs1, hkeep .mix, hkeep .out,
    fun hv => ⟨hkeep .tlen hv, step_keeps_tlen s t h hreset hv⟩, fun hf => ?record⟩
  case record =>
    have hrecord := step_keeps_faultRecord s t h hreset hf
    simp only [State.faultRecord, Prod.mk.injEq] at hrecord
    exact hf ▸ hrecord

/-! ## The canonical form of the memory -/

section

variable (s t : State)

theorem regWrite_memoryWf (r : Reg) (v : Word) (h : s.memoryWf) : (regWrite s r v).memoryWf := by
  cases r <;> exact h

theorem commitRs_memoryWf (ch : Channel) (m : Mem 8) (h : s.memoryWf) (hm : m.wf) : (s.commitRs ch m).memoryWf := by
  obtain ⟨lut, surf, fb, src0, src1, rs0, rs1, mixb, out⟩ := h
  cases ch with
  | primary => exact ⟨lut, surf, fb, src0, src1, hm, rs1, mixb, out⟩
  | auxiliary => exact ⟨lut, surf, fb, src0, src1, rs0, hm, mixb, out⟩

theorem rsMem_wf (ch : Channel) (h : s.memoryWf) : (rsMem ch s).wf := by
  obtain ⟨lut, surf, fb, src0, src1, rs0, rs1, mixb, out⟩ := h
  cases ch with
  | primary => exact rs0
  | auxiliary => exact rs1

theorem latchTlen_memoryWf (v : Word) (h : s.memoryWf) : (s.latchTlen v).memoryWf := by
  simpa [State.memoryWf] using h

/-- A command writes its space by runs of writes, which keep the canonical form. -/
theorem commandEffect_memoryWf (i : Instr) (hs : s.memoryWf) (h : commandEffect i s = .ok t) : t.memoryWf := by
  obtain ⟨lut, surf, fb, src0, src1, rs0, rs1, mixb, out⟩ := id hs
  cases effect_of_commandEffect s t i h with
  | palbuild => exact ⟨Mem.wf_writeRun _ _ _ lut, surf, fb, src0, src1, rs0, rs1, mixb, out⟩
  | blit rows _ => exact ⟨lut, surf, writeRows_wf _ _ _ _ fb, src0, src1, rs0, rs1, mixb, out⟩
  | resample ch vs _ =>
    exact commitRs_memoryWf _ ch _ (latchTlen_memoryWf s _ hs) (Mem.wf_writeRun _ _ _ (rsMem_wf s ch hs))
  | mix vs _ => exact ⟨lut, surf, fb, src0, src1, rs0, rs1, Mem.wf_writeRun _ _ _ mixb, out⟩
  | widen vs _ => exact ⟨lut, surf, fb, src0, src1, rs0, rs1, mixb, Mem.wf_writeRun _ _ _ out⟩

end

/-- Settles O51: a step writes a space by writes of elements and runs of them, or empties it. -/
theorem stepKeepsMemoryCanonical : Obligations.StepKeepsMemoryCanonical := by
  intro s t hs h
  cases step_changed s t h with
  | nothing ts r hu => exact hu ▸ hs
  | record ts r c info _ hu => exact hu ▸ hs
  | register rest q v hu => exact hu ▸ regWrite_memoryWf (s.dequeue rest) q v hs
  | element rest space i v _ _ hu => exact hu ▸ spaceWrite_memoryWf (s.dequeue rest) space i v hs
  | command rest i _ _ he => exact commandEffect_memoryWf (s.dequeue rest) t i hs he
  | reset rest _ hu => exact hu ▸ afterReset_memoryWf (s.dequeue rest)

end Sys2Proof.Machine
end

section
/-! PROOFS, 10_state.md, the invariant of the block. It holds at reset (R46) and each kind of change of `Changed` keeps it:
a command writes its buffer up to `TLEN` together with the flag that vouches for it (R30, R44), and latches a `TLEN` that
fits (R28). -/

namespace Sys2Proof.Machine

/-! ## Runs written from element 0 -/

section

variable {width : Nat} (m : Mem width) (vs : List (BitVec width))

theorem Mem.writtenBelow_writeRun : (m.writeRun 0 vs).writtenBelow vs.length := by
  intro k hk
  have hrun := Mem.read_writeRun_mem m 0 vs k hk
  rw [Nat.zero_add] at hrun
  exact ⟨vs[k], hrun.trans (List.getElem?_eq_getElem hk)⟩

theorem Mem.below_writeRun_zero (n : Nat) (h : m.below n) (hn : vs.length ≤ n) : (m.writeRun 0 vs).below n :=
  Mem.below_writeRun m 0 vs n h (by omega)

/-- Nothing is listed below 0, so what lies below 0 lies below any size. -/
theorem Mem.below_of_below_zero (n : Nat) (h : m.below 0) : m.below n :=
  Mem.below_mono m 0 n h (Nat.zero_le n)

end

theorem length_of_collect_range {α : Type} (f : Nat → Except Fault α) (n : Nat) (vs : List α)
    (h : collect f (List.range n) = .ok vs) : vs.length = n :=
  (collect_ok f _ vs h).1.trans List.length_range

/-! ## The state after reset -/

theorem resetOf_invariant (P : Params) : (State.resetOf P).Invariant where
  canonical := resetOf_memoryWf P
  inRange := by simp [State.resetOf, State.memoryInRange, Mem.below]
  lutBuilt := nofun
  lutUnbuilt := fun _ => rfl
  videoFits := ⟨Nat.zero_le _, Nat.zero_le _⟩
  videoUnset := fun _ => ⟨rfl, rfl⟩
  tlenFits := Nat.zero_le _
  tlenUnset := fun _ => rfl
  rs0Written := nofun
  rs1Written := nofun
  mixWritten := nofun
  outWritten := nofun
  audioBelowTlen := by simp [State.resetOf, Mem.below]
  noRecord := fun _ => ⟨rfl, rfl⟩
  recordCode := nofun

/-- Settles O53. -/
theorem resetHasBlockInvariant : Obligations.ResetHasBlockInvariant :=
  ⟨resetOf_invariant Config.params, resetOf_invariant⟩

/-! ## Host transactions -/

/-- The codes of R196. -/
theorem ErrCode.code_range (c : ErrCode) : 1 ≤ c.code.toNat ∧ c.code.toNat ≤ 12 := by
  cases c <;> decide

section

variable {s : State} (hs : s.Invariant)

include hs

/-- The host's side and the count of resets are no part of the invariant. -/
theorem State.Invariant.host (ts : List Transaction) (r : Option Word) (n : Nat) :
    ({ s with pending := ts, reply := r, epoch := n } : State).Invariant := { hs with }

theorem State.Invariant.dequeue (rest : List Transaction) : (s.dequeue rest).Invariant := hs.host rest none s.epoch

/-- A recorded code is one of R196's. -/
theorem State.Invariant.withFaultRecord (c : ErrCode) (info : Word) : (s.withFaultRecord c.code info).Invariant :=
  { hs with
    noRecord := nofun
    recordCode := fun _ => ErrCode.code_range c }

/-- The RW registers are no part of the invariant. -/
theorem State.Invariant.regWrite (r : Reg) (v : Word) : (regWrite s r v).Invariant := by
  cases r <;> exact { hs with }

/-- A memory write inside a writable space stays inside it (R64, R183). -/
theorem State.Invariant.spaceWrite (space : Space) (i : Nat) (v : Word) (hw : hostWritable space = true)
    (hi : i < spaceSize s.cfg space) : (spaceWrite s space i v).Invariant := by
  have hwf := spaceWrite_memoryWf s space i v hs.canonical
  obtain ⟨lut, surf, fb, src0, src1, rs0, rs1, mixb, out⟩ := hs.inRange
  cases space with
  | surf =>
    exact { hs with
      canonical := hwf
      inRange := ⟨lut, Mem.below_write _ _ _ _ surf hi, fb, src0, src1, rs0, rs1, mixb, out⟩ }
  | fb =>
    exact { hs with
      canonical := hwf
      inRange := ⟨lut, surf, Mem.below_write _ _ _ _ fb hi, src0, src1, rs0, rs1, mixb, out⟩ }
  | src0 =>
    exact { hs with
      canonical := hwf
      inRange := ⟨lut, surf, fb, Mem.below_write _ _ _ _ src0 hi, src1, rs0, rs1, mixb, out⟩ }
  | src1 =>
    exact { hs with
      canonical := hwf
      inRange := ⟨lut, surf, fb, src0, Mem.below_write _ _ _ _ src1 hi, rs0, rs1, mixb, out⟩ }
  | palrom | lut | rs0 | rs1 | mixb | out => contradiction

/-! ## Commands -/

/-- A build makes the LUT what `LUT_VALID` promises (R114). -/
theorem State.Invariant.buildLut : (buildLut s).Invariant := by
  obtain ⟨lut, surf, fb, src0, src1, rs0, rs1, mixb, out⟩ := hs.inRange
  exact { hs with
    canonical := commandEffect_memoryWf s _ .palbuild hs.canonical rfl
    inRange := ⟨Mem.below_writeRun_zero _ _ _ lut (by simp [spaceSize]), surf, fb, src0, src1, rs0, rs1, mixb, out⟩
    lutBuilt := fun _ => read_buildLut s
    lutUnbuilt := nofun }

/-- A blit whose checks passed stays inside the framebuffer, and so does its size (R27, R124). -/
theorem State.Invariant.commitBlit (rows : List (List Color)) (hc : checkBlit s = none) (hrows : blitRows s = .ok rows) :
    (s.commitBlit (writeRows s.cfg s.fb 0 rows) s.visW s.visH).Invariant := by
  obtain ⟨-, hw, hh, -⟩ := checkBlit_none s hc
  have hwidth : ∀ row ∈ rows, row.length ≤ s.cfg.fbStride := fun row hrow =>
    (length_of_mem_blitRows s rows hrows row hrow).trans_le hw
  have hheight : 0 + rows.length ≤ s.cfg.fbHeight := by
    rw [Nat.zero_add, (blitRows_ok s rows hrows).1]
    exact hh
  obtain ⟨lut, surf, fb, src0, src1, rs0, rs1, mixb, out⟩ := hs.inRange
  obtain ⟨lutWf, surfWf, fbWf, audioWf⟩ := hs.canonical
  exact { hs with
    canonical := ⟨lutWf, surfWf, writeRows_wf _ _ _ _ fbWf, audioWf⟩
    inRange := ⟨lut, surf, writeRows_below s.cfg s.fb 0 rows hwidth hheight fb, src0, src1, rs0, rs1, mixb, out⟩
    videoFits := ⟨hw, hh⟩
    videoUnset := nofun }

/-- Before the latch no audio buffer is valid and none holds an element, so any length that fits may be latched (R28,
R44, R138). -/
theorem State.Invariant.latchTlen (v : Word) (hv : v.toNat ≤ s.cfg.tlenMax) : (s.latchTlen v).Invariant := by
  obtain hlatched | hfirst := Bool.eq_false_or_eq_true s.tlenValid
  · rwa [State.latchTlen_of_valid s v hlatched]
  · rw [State.latchTlen_of_not_valid s v hfirst]
    have hnone {n : Nat} {m : Mem n} {b : Bool} (hb : b = true → s.tlenValid = true ∧ m.writtenBelow s.tlen.toNat)
        (h : b = true) : true = true ∧ m.writtenBelow v.toNat := by
      rw [hfirst] at hb
      exact absurd (hb h).1 Bool.false_ne_true
    obtain ⟨rs0, rs1, mixb, out⟩ := hs.audioBelowTlen
    rw [hs.tlenUnset hfirst] at rs0 rs1 mixb out
    exact { hs with
      tlenFits := hv
      tlenUnset := nofun
      rs0Written := hnone hs.rs0Written
      rs1Written := hnone hs.rs1Written
      mixWritten := hnone hs.mixWritten
      outWritten := hnone hs.outWritten
      audioBelowTlen := ⟨Mem.below_of_below_zero _ _ rs0, Mem.below_of_below_zero _ _ rs1,
        Mem.below_of_below_zero _ _ mixb, Mem.below_of_below_zero _ _ out⟩ }

variable (hv : s.tlenValid = true)

include hv

/-- A resampled stream of the latched length fills `RSn` up to `TLEN` (R135, R144). -/
theorem State.Invariant.commitRs (ch : Channel) (vs : List Byte) (hlen : vs.length = s.tlen.toNat) :
    (s.commitRs ch ((rsMem ch s).writeRun 0 vs)).Invariant := by
  have hwf := commitRs_memoryWf s ch _ hs.canonical (Mem.wf_writeRun _ 0 vs (rsMem_wf s ch hs.canonical))
  have hfits : vs.length ≤ s.cfg.tlenMax := hlen ▸ hs.tlenFits
  have hwritten (m : Mem 8) : (m.writeRun 0 vs).writtenBelow s.tlen.toNat := hlen ▸ Mem.writtenBelow_writeRun m vs
  obtain ⟨lut, surf, fb, src0, src1, rs0, rs1, mixb, out⟩ := hs.inRange
  obtain ⟨rs0T, rs1T, mixbT, outT⟩ := hs.audioBelowTlen
  cases ch with
  | primary =>
    exact { hs with
      canonical := hwf
      inRange := ⟨lut, surf, fb, src0, src1, Mem.below_writeRun_zero _ _ _ rs0 hfits, rs1, mixb, out⟩
      rs0Written := fun _ => ⟨hv, hwritten s.rs0⟩
      audioBelowTlen := ⟨Mem.below_writeRun_zero _ _ _ rs0T hlen.le, rs1T, mixbT, outT⟩ }
  | auxiliary =>
    exact { hs with
      canonical := hwf
      inRange := ⟨lut, surf, fb, src0, src1, rs0, Mem.below_writeRun_zero _ _ _ rs1 hfits, mixb, out⟩
      rs1Written := fun _ => ⟨hv, hwritten s.rs1⟩
      audioBelowTlen := ⟨rs0T, Mem.below_writeRun_zero _ _ _ rs1T hlen.le, mixbT, outT⟩ }

/-- A mix of the latched length fills `MIXB` up to `TLEN` (R155). -/
theorem State.Invariant.commitMix (vs : List Byte) (hlen : vs.length = s.tlen.toNat) :
    (s.commitMix (s.mixb.writeRun 0 vs)).Invariant := by
  obtain ⟨lutWf, surfWf, fbWf, src0Wf, src1Wf, rs0Wf, rs1Wf, mixbWf, outWf⟩ := hs.canonical
  obtain ⟨lut, surf, fb, src0, src1, rs0, rs1, mixb, out⟩ := hs.inRange
  obtain ⟨rs0T, rs1T, mixbT, outT⟩ := hs.audioBelowTlen
  exact { hs with
    canonical := ⟨lutWf, surfWf, fbWf, src0Wf, src1Wf, rs0Wf, rs1Wf, Mem.wf_writeRun _ _ _ mixbWf, outWf⟩
    inRange := ⟨lut, surf, fb, src0, src1, rs0, rs1, Mem.below_writeRun_zero _ _ _ mixb (hlen ▸ hs.tlenFits), out⟩
    mixWritten := fun _ => ⟨hv, hlen ▸ Mem.writtenBelow_writeRun s.mixb vs⟩
    audioBelowTlen := ⟨rs0T, rs1T, Mem.below_writeRun_zero _ _ _ mixbT hlen.le, outT⟩ }

/-- The frames of a mix of the latched length fill `OUT` up to `TLEN` (R165). -/
theorem State.Invariant.commitOut (vs : List Word) (hlen : vs.length = s.tlen.toNat) :
    (s.commitOut (s.out.writeRun 0 vs)).Invariant := by
  obtain ⟨lutWf, surfWf, fbWf, src0Wf, src1Wf, rs0Wf, rs1Wf, mixbWf, outWf⟩ := hs.canonical
  obtain ⟨lut, surf, fb, src0, src1, rs0, rs1, mixb, out⟩ := hs.inRange
  obtain ⟨rs0T, rs1T, mixbT, outT⟩ := hs.audioBelowTlen
  exact { hs with
    canonical := ⟨lutWf, surfWf, fbWf, src0Wf, src1Wf, rs0Wf, rs1Wf, mixbWf, Mem.wf_writeRun _ _ _ outWf⟩
    inRange := ⟨lut, surf, fb, src0, src1, rs0, rs1, mixb, Mem.below_writeRun_zero _ _ _ out (hlen ▸ hs.tlenFits)⟩
    outWritten := fun _ => ⟨hv, hlen ▸ Mem.writtenBelow_writeRun s.out vs⟩
    audioBelowTlen := ⟨rs0T, rs1T, mixbT, Mem.below_writeRun_zero _ _ _ outT hlen.le⟩ }

end

/-- Latching `TLEN` leaves the resampled streams as they are. -/
@[simp] theorem rsMem_latchTlen (s : State) (ch : Channel) (v : Word) : rsMem ch (s.latchTlen v) = rsMem ch s := by
  cases ch <;> simp [rsMem]

/-- The effect of a command whose checks passed keeps the invariant. -/
theorem State.Invariant.commandEffect {s t : State} (hs : s.Invariant) (i : Instr) (hc : commandCheck i s = none)
    (he : commandEffect i s = .ok t) : t.Invariant := by
  cases effect_of_commandEffect s t i he with
  | palbuild => exact hs.buildLut
  | blit rows hrows => exact hs.commitBlit rows hc hrows
  | resample ch vs hvs =>
    have hT : (BitVec.ofNat 32 (targetLength s)).toNat = targetLength s := by
      rw [BitVec.toNat_ofNat, Nat.mod_eq_of_lt (targetLength_lt s)]
    have hlatched := hs.latchTlen (BitVec.ofNat 32 (targetLength s)) (hT.trans_le (targetLength_le_tlenMax s ch hc hs))
    have hlen := (resampled_ok s ch vs hvs).1.trans (latchTlen_targetLength s ch hc).symm
    rw [← rsMem_latchTlen s ch (BitVec.ofNat 32 (targetLength s))]
    exact hlatched.commitRs (State.latchTlen_tlenValid s _) ch vs hlen
  | mix vs hvs =>
    obtain ⟨hvalid, -⟩ := checkMix_none s hc
    exact hs.commitMix (hs.rs0Written hvalid).1 vs (length_of_collect_range _ _ vs hvs)
  | widen vs hvs => exact hs.commitOut (hs.mixWritten (checkWiden_none s hc)).1 vs (length_of_collect_range _ _ vs hvs)

/-- Settles O52: each kind of change keeps the invariant. -/
theorem stepKeepsBlockInvariant : Obligations.StepKeepsBlockInvariant := by
  intro s t hs h
  cases step_changed s t h with
  | nothing ts r hu => exact hu ▸ hs.host ts r s.epoch
  | record ts r c info _ hu => exact hu ▸ (hs.host ts r s.epoch).withFaultRecord c info
  | register rest q v hu => exact hu ▸ (hs.dequeue rest).regWrite q v
  | element rest space i v hw hi hu => exact hu ▸ (hs.dequeue rest).spaceWrite space i v hw hi
  | command rest i _ hc he => exact (hs.dequeue rest).commandEffect i hc he
  | reset rest _ hu => exact hu ▸ (resetOf_invariant s.cfg).host rest none (s.epoch + 1)

end Sys2Proof.Machine
end

section
/-! PROOFS, 43_mixer.md and 44_widener.md, the commands (R155 to R158, R165 to R168). Both loop over the first `TLEN`
elements and write what they compute from element 0 on (`read_writeRun_collect`); each sample is given by what it reads. -/

namespace Sys2Proof.Machine

/-- A loop over the first `n` indices, written from element 0: element `k` below `n` is what iteration `k` yields, the
others are as before. -/
theorem read_writeRun_collect {width : Nat} (f : Nat → Except Fault (BitVec width)) (n : Nat)
    (vs : List (BitVec width)) (h : collect f (List.range n) = .ok vs) (m : Mem width) :
    (∀ k < n, ∃ v, f k = .ok v ∧ (m.writeRun 0 vs).read k = some v) ∧
      ∀ k, n ≤ k → (m.writeRun 0 vs).read k = m.read k := by
  obtain ⟨hlen, hget⟩ := collect_ok f _ vs h
  simp only [List.length_range, List.getElem_range] at hlen hget
  refine ⟨fun k hk => ?_, fun k hk => Mem.read_writeRun_of_not_mem m 0 vs k (.inr (by omega))⟩
  obtain ⟨v, hv, hvs⟩ := hget k hk
  have hrun := Mem.read_writeRun_mem m 0 vs k (hlen ▸ hk)
  rw [Nat.zero_add] at hrun
  exact ⟨v, hv, hrun.trans hvs⟩

variable (s t : State)

/-- A command that is not ignored and whose checks pass has its effect (R204). -/
theorem exec_of_effect (i : Instr) (hf : s.faulted = false) (hc : commandCheck i s = none)
    (he : commandEffect i s = .ok t) : exec i s = .next t :=
  (exec_eq_runCommand s i).trans (runCommand_of_effect i _ _ s t hf hc he)

/-! ## `MIX` -/

theorem checkMix_eq_none (h0 : s.rs0Valid = true) (h1 : s.auxPresent = true → s.rs1Valid = true) :
    checkMix s = none := by
  have hrs1 : ¬(s.auxPresent = true ∧ s.rs1Valid = false) := fun ⟨ha, hn⟩ => by
    rw [h1 ha] at hn
    contradiction
  rw [checkMix, h0, if_neg (by decide), if_neg hrs1]

/-- Without the auxiliary stream the mix is the primary sample (R157). -/
theorem mixSample_of_primary (i : Nat) (a : Byte) (haux : s.auxPresent = false) (ha : s.rs0.read i = some a) :
    mixSample s i = .ok a := by
  simp [mixSample, element, ha, haux]

/-- With it the mix is the mean of the two samples (R156). -/
theorem mixSample_of_both (i : Nat) (a b : Byte) (haux : s.auxPresent = true) (ha : s.rs0.read i = some a)
    (hb : s.rs1.read i = some b) : mixSample s i = .ok (mix2 a b) := by
  simp [mixSample, element, ha, hb, haux]

/-- A mix whose streams are written up to `TLEN` can be computed. -/
theorem mixSamples_total (h0 : s.rs0.writtenBelow s.tlen.toNat)
    (h1 : s.auxPresent = true → s.rs1.writtenBelow s.tlen.toNat) :
    ∃ vs, collect (mixSample s) (List.range s.tlen.toNat) = .ok vs := by
  refine collect_total _ _ fun i hi => ?_
  obtain ⟨a, ha⟩ := h0 i (List.mem_range.1 hi)
  obtain haux | haux := Bool.eq_false_or_eq_true s.auxPresent
  · obtain ⟨b, hb⟩ := h1 haux i (List.mem_range.1 hi)
    exact ⟨mix2 a b, mixSample_of_both s i a b haux ha hb⟩
  · exact ⟨a, mixSample_of_primary s i a haux ha⟩

theorem mixEffect_of_samples (vs : List Byte) (h : collect (mixSample s) (List.range s.tlen.toNat) = .ok vs) :
    mixEffect s = .ok (s.commitMix (s.mixb.writeRun 0 vs)) := by
  rw [mixEffect, h]

/-- Settles O27: the streams that are read are written, so every sample can be computed, and the two modes give the two
forms of a sample. -/
theorem mixCombinesTheStreams : Obligations.MixCombinesTheStreams := by
  intro s hf hvalid0 hvalid1 h0 h1
  obtain ⟨vs, hvs⟩ := mixSamples_total s h0 h1
  obtain ⟨hin, hout⟩ := read_writeRun_collect _ _ vs hvs s.mixb
  refine ⟨_, exec_of_effect s _ .mix hf (checkMix_eq_none s hvalid0 hvalid1) (mixEffect_of_samples s vs hvs), rfl,
    fun haux i hi => ?primary, fun haux i hi => ?both, hout⟩
  case primary =>
    obtain ⟨a, ha⟩ := h0 i hi
    obtain ⟨v, hv, hread⟩ := hin i hi
    obtain rfl : a = v := Except.ok.inj ((mixSample_of_primary s i a haux ha).symm.trans hv)
    exact hread.trans ha.symm
  case both =>
    obtain ⟨a, ha⟩ := h0 i hi
    obtain ⟨b, hb⟩ := h1 haux i hi
    obtain ⟨v, hv, hread⟩ := hin i hi
    obtain rfl : mix2 a b = v := Except.ok.inj ((mixSample_of_both s i a b haux ha hb).symm.trans hv)
    exact ⟨a, b, ha, hb, hread⟩

/-! ## `WIDEN` -/

theorem checkWiden_eq_none (h : s.mixValid = true) : checkWiden s = none := by
  rw [checkWiden, h, if_neg (by decide)]

/-- A frame is that of the mixed sample (R165). -/
theorem widenSample_eq_ok (i : Nat) (w : Word) :
    widenSample s i = .ok w ↔ ∃ v, s.mixb.read i = some v ∧ w = frame v := by
  cases h : s.mixb.read i <;> simp [widenSample, element, h, eq_comm]

/-- The frames of a mix that is written up to `TLEN` can be computed. -/
theorem widenSamples_total (h : s.mixb.writtenBelow s.tlen.toNat) :
    ∃ vs, collect (widenSample s) (List.range s.tlen.toNat) = .ok vs := by
  refine collect_total _ _ fun i hi => ?_
  obtain ⟨v, hv⟩ := h i (List.mem_range.1 hi)
  exact ⟨frame v, (widenSample_eq_ok s i _).2 ⟨v, hv, rfl⟩⟩

theorem widenEffect_of_samples (vs : List Word) (h : collect (widenSample s) (List.range s.tlen.toNat) = .ok vs) :
    widenEffect s = .ok (s.commitOut (s.out.writeRun 0 vs)) := by
  rw [widenEffect, h]

/-- Settles O30. -/
theorem widenProducesTheFrames : Obligations.WidenProducesTheFrames := by
  intro s hf hvalid h
  obtain ⟨vs, hvs⟩ := widenSamples_total s h
  obtain ⟨hin, hout⟩ := read_writeRun_collect _ _ vs hvs s.out
  refine ⟨_, exec_of_effect s _ .widen hf (checkWiden_eq_none s hvalid) (widenEffect_of_samples s vs hvs), rfl,
    fun i hi => ?frames, hout⟩
  case frames =>
    obtain ⟨w, hw, hread⟩ := hin i hi
    obtain ⟨v, hv, rfl⟩ := (widenSample_eq_ok s i w).1 hw
    exact ⟨v, hv, hread⟩

end Sys2Proof.Machine
end

section
/-! PROOFS, 10_state.md section 5 and 60_exceptions.md section 6, the model's stops (R45, R209), with the range of a blit
(R124). A command stops at an element its loop reads and finds unwritten; a loop that ends has found none. The invariant
leaves the spaces the host fills. -/

namespace Sys2Proof.Machine

variable (s : State)

/-! ## The range of a blit -/

/-- Column `c` of row `r` lies inside `h` rows of `w` columns. -/
theorem row_index_lt (r c w h : Nat) (hr : r < h) (hc : c < w) : r * w + c < w * h :=
  calc r * w + c
    _ < r * w + w := Nat.add_lt_add_left hc _
    _ = (r + 1) * w := (Nat.succ_mul r w).symm
    _ ≤ h * w := Nat.mul_le_mul_right w hr
    _ = w * h := Nat.mul_comm h w

theorem surfIndex_lt (hc : checkBlit s = none) (r : Nat) (hr : r < s.visH.toNat) (c : Nat) (hcol : c < s.visW.toNat) :
    surfIndex s r c < s.cfg.surfSize := by
  obtain ⟨-, -, -, -, hsize⟩ := checkBlit_none s hc
  have hindex := row_index_lt r c _ _ hr hcol
  rw [surfIndex, Nat.add_assoc]
  omega

/-- Settles O14: both indices are those of a row and a column, of the framebuffer and of the source rectangle. -/
theorem blitAccessesStayInRange : Obligations.BlitAccessesStayInRange := by
  intro s hc r hr c hcol
  obtain ⟨-, hw, hh, -⟩ := checkBlit_none s hc
  exact ⟨row_index_lt r c _ _ (hr.trans_le hh) (hcol.trans_le hw), surfIndex_lt s hc r hr c hcol⟩

/-! ## Commands that stop -/

/-- A command stops the model by its effect alone (R209). -/
theorem exec_eq_fault_iff (i : Instr) (e : Fault) :
    exec i s = .fault e ↔ s.faulted = false ∧ commandCheck i s = none ∧ commandEffect i s = .error e := by
  rw [exec_eq_runCommand]
  exact ⟨runCommand_fault i _ _ s e, fun ⟨hf, hc, he⟩ => runCommand_of_uninit i _ _ s e hf hc he⟩

theorem exists_ok_of_mem_collect {ι α : Type} (f : ι → Except Fault α) (is : List ι) (vs : List α)
    (h : collect f is = .ok vs) (i : ι) (hi : i ∈ is) : ∃ v, f i = .ok v := by
  obtain ⟨k, hk, rfl⟩ := List.mem_iff_getElem.1 hi
  obtain ⟨v, hv, -⟩ := (collect_ok f is vs h).2 k hk
  exact ⟨v, hv⟩

section

variable (hlut : ∀ i < 256, ∃ p, s.lut.read i = some p)

include hlut

/-- With the LUT written a pixel fails for want of its surface element. -/
theorem blitPixel_error (r c : Nat) (e : Fault) (h : blitPixel s r c = .error e) :
    s.surf.read (surfIndex s r c) = none ∧ e = .uninit .surf (surfIndex s r c) := by
  unfold blitPixel at h
  split at h
  next e' hsurf =>
    obtain rfl := Except.error.inj h
    exact (element_eq_error _ _ _ _).1 hsurf
  next idx _ =>
    obtain ⟨hnone, -⟩ := (element_eq_error _ _ _ _).1 h
    obtain ⟨p, hp⟩ := hlut idx.toNat idx.isLt
    rw [hp] at hnone
    contradiction

/-- With the LUT written a blit stops at an unwritten surface element of its rectangle. -/
theorem blitEffect_error (e : Fault) (h : blitEffect s = .error e) :
    ∃ r < s.visH.toNat, ∃ c < s.visW.toNat, s.surf.read (surfIndex s r c) = none ∧
      e = .uninit .surf (surfIndex s r c) := by
  unfold blitEffect at h
  split at h
  next e' hrows =>
    obtain rfl := Except.error.inj h
    obtain ⟨r, hr, hrow⟩ := collect_error _ _ _ hrows
    obtain ⟨c, hc, hpixel⟩ := collect_error _ _ _ hrow
    exact ⟨r, List.mem_range.1 hr, c, List.mem_range.1 hc, blitPixel_error s hlut r c _ hpixel⟩
  next => contradiction

end

/-- A blit that completes has read every surface element of its rectangle. -/
theorem exists_surf_of_blitEffect_ok (t : State) (h : blitEffect s = .ok t) (r : Nat) (hr : r < s.visH.toNat) (c : Nat)
    (hc : c < s.visW.toNat) : ∃ v, s.surf.read (surfIndex s r c) = some v := by
  obtain ⟨rows, hrows, -⟩ := blitEffect_ok s t h
  obtain ⟨row, -, -, hpixels⟩ := (blitRows_ok s rows hrows).2 r hr
  obtain ⟨p, hp, -⟩ := hpixels c hc
  obtain ⟨idx, hidx, -⟩ := (blitPixel_eq_ok s r c p).1 hp
  exact ⟨idx, hidx⟩

/-- Settles O17: the blit does not complete, and what it stops at is unwritten. -/
theorem blitOfUnwrittenSurfaceStops : Obligations.BlitOfUnwrittenSurfaceStops := by
  rintro s hf hcheck hlut ⟨r, hr, c, hc, hnone⟩
  cases he : blitEffect s with
  | ok t =>
    obtain ⟨v, hv⟩ := exists_surf_of_blitEffect_ok s t he r hr c hc
    rw [hv] at hnone
    contradiction
  | error e =>
    obtain ⟨r', hr', c', hc', hnone', rfl⟩ := blitEffect_error s hlut e he
    exact ⟨r', hr', c', hc', hnone', (exec_eq_fault_iff s .blit _).2 ⟨hf, hcheck, he⟩⟩

/-- A `RESAMPLE` stops at an unwritten element that its loop reads. -/
theorem resampleEffect_error (ch : Channel) (e : Fault) (h : resampleEffect ch s = .error e) :
    ∃ j ∈ resampleIndices s, (srcMem ch s).read j = none ∧ e = .uninit (srcSpace ch) j := by
  unfold resampleEffect at h
  split at h
  next e' hsamples =>
    obtain rfl := Except.error.inj h
    obtain ⟨j, hj, helement⟩ := collect_error _ _ _ hsamples
    exact ⟨j, hj, (element_eq_error _ _ _ _).1 helement⟩
  next => contradiction

/-- Settles O24: the resampling does not complete, and what it stops at is unwritten. -/
theorem resampleOfUnwrittenSourceStops : Obligations.ResampleOfUnwrittenSourceStops := by
  rintro s ch hf hcheck ⟨j, hj, hnone⟩
  cases he : resampleEffect ch s with
  | ok t =>
    obtain ⟨vs, hvs, -⟩ := resampleEffect_ok s t ch he
    obtain ⟨v, hv⟩ := exists_ok_of_mem_collect _ _ vs hvs j hj
    rw [element_eq_ok, hnone] at hv
    contradiction
  | error e =>
    obtain ⟨j', hj', hnone', rfl⟩ := resampleEffect_error s ch e he
    exact ⟨j', hj', hnone', (exec_eq_fault_iff s (.resample ch) _).2 ⟨hf, hcheck, he⟩⟩

/-! ## What the invariant leaves -/

theorem State.Invariant.lut_written (hs : s.Invariant) (hv : s.lutValid = true) (i : Nat) (hi : i < 256) :
    ∃ p, s.lut.read i = some p := by
  rw [hs.lutBuilt hv i hi, palrom_getElem s.cfg i hi]
  exact ⟨_, rfl⟩

theorem spaceRead_srcSpace (ch : Channel) (j : Nat) (h : (srcMem ch s).read j = none) :
    spaceRead s (srcSpace ch) j = none := by
  cases ch <;> exact congrArg (Option.map _) h

theorem spaceSize_srcSpace (P : Params) (ch : Channel) : spaceSize P (srcSpace ch) = P.maxSrc := by
  cases ch <;> rfl

/-- What a stop of a step is: an unwritten element inside a space the host fills. -/
def HostElementUnwritten (s : State) (e : Fault) : Prop :=
  ∃ (space : Space) (i : Nat), e = .uninit space i ∧ (space = .surf ∨ space = .src0 ∨ space = .src1) ∧
    i < spaceSize s.cfg space ∧ spaceRead s space i = none

/-- In a state with the invariant a command whose checks pass stops only there: the buffers its valid flags vouch for are
written. -/
theorem hostElementUnwritten_of_commandEffect (hs : s.Invariant) (i : Instr) (e : Fault) (hc : commandCheck i s = none)
    (he : commandEffect i s = .error e) : HostElementUnwritten s e := by
  cases i with
  | palbuild => contradiction
  | blit =>
    obtain ⟨hv, -⟩ := checkBlit_none s hc
    obtain ⟨r, hr, c, hcol, hnone, rfl⟩ := blitEffect_error s (hs.lut_written s hv) e he
    exact ⟨.surf, _, rfl, .inl rfl, surfIndex_lt s hc r hr c hcol, congrArg (Option.map _) hnone⟩
  | resample ch =>
    obtain ⟨j, hj, hnone, rfl⟩ := resampleEffect_error s ch e he
    obtain ⟨-, -, -, hlen, -⟩ := checkResample_none s ch hc
    have hlt := (lt_srcLen_of_mem_resampleIndices s ch hc j hj).trans_le hlen
    refine ⟨srcSpace ch, j, rfl, ?_, (spaceSize_srcSpace s.cfg ch).symm ▸ hlt, spaceRead_srcSpace s ch j hnone⟩
    cases ch
    exacts [.inr (.inl rfl), .inr (.inr rfl)]
  | mix =>
    obtain ⟨h0, h1⟩ := checkMix_none s hc
    obtain ⟨vs, hvs⟩ := mixSamples_total s (hs.rs0Written h0).2 fun haux => (hs.rs1Written (h1 haux)).2
    rw [commandEffect, mixEffect_of_samples s vs hvs] at he
    contradiction
  | widen =>
    obtain ⟨vs, hvs⟩ := widenSamples_total s (hs.mixWritten (checkWiden_none s hc)).2
    rw [commandEffect, widenEffect_of_samples s vs hvs] at he
    contradiction

/-- Settles O54: the step that stops is that of a command on the state with its transaction taken. -/
theorem onlyHostSpacesAreFoundUnwritten : Obligations.OnlyHostSpacesAreFoundUnwritten := by
  intro s e hs h
  obtain ⟨w, i, rest, -, -, hexec⟩ := step_fault s e h
  obtain ⟨-, hc, he⟩ := (exec_eq_fault_iff (s.dequeue rest) i e).1 hexec
  obtain ⟨space, j, hstop, hspace, hj, hnone⟩ :=
    hostElementUnwritten_of_commandEffect (s.dequeue rest) (hs.dequeue rest) i e hc he
  exact ⟨space, j, hstop, hspace, hj, (spaceRead_dequeue s rest space j).symm.trans hnone⟩

end Sys2Proof.Machine
end

section
/-! PROOFS, commands and the parts of the state they do not touch. A change `g` of the state that a command's checks and
loops do not see, and that its writes and the fault record leave alone, may be made before or after the command
(`exec_overlay`). So no command depends on `VIS_LEFT` (R22), and video and audio commands commute (R240). -/

namespace Sys2Proof.Machine

/-! ## Changing the state around a command -/

/-- The outcome with its next state changed by `g`. -/
def mapNext (g : State → State) : Host.Outcome State Fault Refusal → Host.Outcome State Fault Refusal
  | .next t => .next (g t)
  | .fault e => .fault e
  | .refused r => .refused r

theorem mapNext_eq_next (g : State → State) (o : Host.Outcome State Fault Refusal) (u : State)
    (h : mapNext g o = .next u) : ∃ t, o = .next t ∧ u = g t := by
  cases o with
  | next t => exact ⟨t, rfl, (Host.Outcome.next.inj h).symm⟩
  | fault _ | refused _ => contradiction

section

variable (g : State → State) (i : Instr) (s : State)

/-- A change that the command does not see may be made before or after it. -/
theorem exec_overlay (hf : (g s).faulted = s.faulted)
    (hrecord : ∀ c info, (g s).withFaultRecord c info = g (s.withFaultRecord c info))
    (hcheck : commandCheck i (g s) = commandCheck i s)
    (heffect : commandCheck i s = none → commandEffect i (g s) = (commandEffect i s).map g) :
    exec i (g s) = mapNext g (exec i s) := by
  rw [exec_eq_runCommand, exec_eq_runCommand]
  obtain hs | hs := Bool.eq_false_or_eq_true s.faulted
  · rw [runCommand_of_faulted _ _ _ s hs, runCommand_of_faulted _ _ _ (g s) (hf.trans hs), mapNext]
  · cases hc : commandCheck i s with
    | some c =>
      rw [runCommand_of_check _ _ _ s c hs hc, runCommand_of_check _ _ _ (g s) c (hf.trans hs) (hcheck.trans hc),
        mapNext, hrecord]
    | none =>
      have hmap := heffect hc
      cases he : commandEffect i s with
      | ok t =>
        rw [he] at hmap
        rw [runCommand_of_effect _ _ _ s t hs hc he,
          runCommand_of_effect _ _ _ (g s) (g t) (hf.trans hs) (hcheck.trans hc) hmap, mapNext]
      | error e =>
        rw [he] at hmap
        rw [runCommand_of_uninit _ _ _ s e hs hc he,
          runCommand_of_uninit _ _ _ (g s) e (hf.trans hs) (hcheck.trans hc) hmap, mapNext]

end

/-! ## An effect is a loop and then writes -/

section

variable (s : State)

/-- The latch as one update of the state (R138). -/
theorem State.latchTlen_eq (v : Word) :
    s.latchTlen v = { s with tlen := if s.tlenValid then s.tlen else v, tlenValid := true } := by
  obtain h | h := Bool.eq_false_or_eq_true s.tlenValid
  · rw [State.latchTlen_of_valid s v h, if_pos h, ← h]
  · rw [State.latchTlen_of_not_valid s v h, h]
    rfl

theorem blitEffect_eq_map :
    blitEffect s = (blitRows s).map fun rows => s.commitBlit (writeRows s.cfg s.fb 0 rows) s.visW s.visH := by
  unfold blitEffect
  cases blitRows s <;> rfl

/-- The state with the target length latched, unless a length is latched already (R138). -/
def State.latched : State :=
  { s with tlen := if s.tlenValid then s.tlen else BitVec.ofNat 32 (targetLength s), tlenValid := true }

theorem State.latchTlen_eq_latched : s.latchTlen (BitVec.ofNat 32 (targetLength s)) = s.latched := s.latchTlen_eq _

theorem resampleEffect_eq_map (ch : Channel) :
    resampleEffect ch s = (resampled ch s).map fun vs => s.latched.commitRs ch ((rsMem ch s).writeRun 0 vs) := by
  rw [resampleEffect, State.latchTlen_eq_latched]
  cases resampled ch s <;> rfl

theorem mixEffect_eq_map :
    mixEffect s = (collect (mixSample s) (List.range s.tlen.toNat)).map fun vs =>
      s.commitMix (s.mixb.writeRun 0 vs) := by
  unfold mixEffect
  cases collect (mixSample s) (List.range s.tlen.toNat) <;> rfl

theorem widenEffect_eq_map :
    widenEffect s = (collect (widenSample s) (List.range s.tlen.toNat)).map fun vs =>
      s.commitOut (s.out.writeRun 0 vs) := by
  unfold widenEffect
  cases collect (widenSample s) (List.range s.tlen.toNat) <;> rfl

/-! ## An effect and a change it does not see

A change that leaves a command's loop and its writes alone may be made before or after the effect. -/

variable (g : State → State)

/-- Writes that a change leaves alone, after the same loop. -/
theorem map_overlay {α : Type} (loop : Except Fault α) (write write' : α → State)
    (h : ∀ x, write' x = g (write x)) : loop.map write' = (loop.map write).map g := by
  cases loop with
  | error e => rfl
  | ok x => exact congrArg Except.ok (h x)

theorem blitEffect_overlay (hloop : blitRows (g s) = blitRows s)
    (hwrite : ∀ rows, (g s).commitBlit (writeRows (g s).cfg (g s).fb 0 rows) (g s).visW (g s).visH =
      g (s.commitBlit (writeRows s.cfg s.fb 0 rows) s.visW s.visH)) :
    blitEffect (g s) = (blitEffect s).map g := by
  rw [blitEffect_eq_map, blitEffect_eq_map, hloop]
  exact map_overlay g _ _ _ hwrite

theorem resampleEffect_overlay (ch : Channel) (hloop : resampled ch (g s) = resampled ch s)
    (hwrite : ∀ vs, (g s).latched.commitRs ch ((rsMem ch (g s)).writeRun 0 vs) =
      g (s.latched.commitRs ch ((rsMem ch s).writeRun 0 vs))) :
    resampleEffect ch (g s) = (resampleEffect ch s).map g := by
  rw [resampleEffect_eq_map, resampleEffect_eq_map, hloop]
  exact map_overlay g _ _ _ hwrite

theorem mixEffect_overlay
    (hloop : collect (mixSample (g s)) (List.range (g s).tlen.toNat) =
      collect (mixSample s) (List.range s.tlen.toNat))
    (hwrite : ∀ vs, (g s).commitMix ((g s).mixb.writeRun 0 vs) = g (s.commitMix (s.mixb.writeRun 0 vs))) :
    mixEffect (g s) = (mixEffect s).map g := by
  rw [mixEffect_eq_map, mixEffect_eq_map, hloop]
  exact map_overlay g _ _ _ hwrite

theorem widenEffect_overlay
    (hloop : collect (widenSample (g s)) (List.range (g s).tlen.toNat) =
      collect (widenSample s) (List.range s.tlen.toNat))
    (hwrite : ∀ vs, (g s).commitOut ((g s).out.writeRun 0 vs) = g (s.commitOut (s.out.writeRun 0 vs))) :
    widenEffect (g s) = (widenEffect s).map g := by
  rw [widenEffect_eq_map, widenEffect_eq_map, hloop]
  exact map_overlay g _ _ _ hwrite

end

/-! ## `VIS_LEFT` -/

def withVisLeft (v : Word) (s : State) : State := { s with visLeft := v }

theorem exec_withVisLeft (i : Instr) (s : State) (v : Word) :
    exec i (withVisLeft v s) = mapNext (withVisLeft v) (exec i s) := by
  refine exec_overlay (withVisLeft v) i s rfl (fun _ _ => rfl) ?check fun _ => ?effect
  case check => cases i <;> rfl
  case effect =>
    cases i with
    | palbuild => rfl
    | blit => exact blitEffect_overlay s (withVisLeft v) rfl fun _ => rfl
    | resample ch => cases ch <;> exact resampleEffect_overlay s (withVisLeft v) _ rfl fun _ => rfl
    | mix => exact mixEffect_overlay s (withVisLeft v) rfl fun _ => rfl
    | widen => exact widenEffect_overlay s (withVisLeft v) rfl fun _ => rfl

/-- Settles O32. -/
theorem noCommandReadsVisLeft : Obligations.NoCommandReadsVisLeft := fun i s v =>
  ⟨fun _ h => (exec_withVisLeft i s v).trans (congrArg (mapNext (withVisLeft v)) h),
    fun _ h => (exec_withVisLeft i s v).trans (congrArg (mapNext (withVisLeft v)) h)⟩

/-! ## Video and audio -/

/-- `s` with the video results of `u`: the LUT, the framebuffer, the size of the blit and their flags. -/
def withVideo (u s : State) : State :=
  { s with lut := u.lut, lutValid := u.lutValid, fb := u.fb, videoW := u.videoW, videoH := u.videoH,
           videoValid := u.videoValid }

/-- `s` with the audio results of `u`: the latched length, the four audio buffers and their flags. -/
def withAudio (u s : State) : State :=
  { s with tlen := u.tlen, tlenValid := u.tlenValid, rs0 := u.rs0, rs0Valid := u.rs0Valid, rs1 := u.rs1,
           rs1Valid := u.rs1Valid, mixb := u.mixb, mixValid := u.mixValid, out := u.out, outValid := u.outValid }

/-- A command changes nothing but a part of the state when it completes without a fault. -/
def Confined (i : Instr) (part : State → State → State) : Prop :=
  ∀ s t, exec i s = .next t → t.faulted = false → t = part t s

/-- A command does not depend on a part of the state, and leaves it as it is. -/
def Independent (i : Instr) (part : State → State → State) : Prop :=
  ∀ u s, exec i (part u s) = mapNext (part u) (exec i s)

section

variable (s t : State) (i : Instr)

theorem not_faulted_of_exec (h : exec i s = .next t) (ht : t.faulted = false) : s.faulted = false := by
  obtain ⟨-, rfl⟩ | ⟨hf, -⟩ | ⟨hf, -⟩ := exec_next s t i h
  · exact ht
  · exact hf
  · exact hf

/-- A command that completes without a fault has passed its checks and had its effect. -/
theorem exec_next_of_not_faulted (h : exec i s = .next t) (ht : t.faulted = false) :
    commandCheck i s = none ∧ commandEffect i s = .ok t := by
  obtain ⟨hf, rfl⟩ | ⟨-, c, -, rfl⟩ | ⟨-, hc, he⟩ := exec_next s t i h
  · rw [ht] at hf
    contradiction
  · contradiction
  · exact ⟨hc, he⟩

end

/-- Two commands, each confined to a part of the state that the other does not depend on, commute. -/
theorem exec_commute (i j : Instr) (p q : State → State → State) (hi : Confined i p) (hj : Confined j q)
    (hiq : Independent i q) (hjp : Independent j p) (hfault : ∀ u s, (p u s).faulted = s.faulted)
    (hpq : ∀ u w s, p u (q w s) = q w (p u s)) (s s1 s2 : State) (h1 : exec i s = .next s1)
    (h2 : exec j s1 = .next s2) (hf : s2.faulted = false) :
    ∃ s3, exec j s = .next s3 ∧ exec i s3 = .next s2 := by
  have hs1 : s1 = p s1 s := hi s s1 h1 (not_faulted_of_exec s1 s2 j h2 hf)
  rw [hs1, hjp] at h2
  obtain ⟨s3, h3, hs2⟩ := mapNext_eq_next _ _ _ h2
  have hs3 : s3 = q s3 s := hj s s3 h3 ((hfault s1 s3).symm.trans (hs2 ▸ hf))
  refine ⟨s3, h3, ?_⟩
  calc exec i s3
    _ = exec i (q s3 s) := congrArg (exec i) hs3
    _ = mapNext (q s3) (exec i s) := hiq s3 s
    _ = .next (q s3 s1) := by rw [h1, mapNext]
    _ = .next (p s1 (q s3 s)) := by rw [hpq, ← hs1]
    _ = .next s2 := by rw [← hs3, ← hs2]

theorem confined_video (i : Instr) (hi : i = .palbuild ∨ i = .blit) : Confined i withVideo := by
  intro s t h ht
  obtain ⟨-, he⟩ := exec_next_of_not_faulted s t i h ht
  cases effect_of_commandEffect s t i he with
  | palbuild | blit => rfl
  | resample | mix | widen => simp at hi

theorem confined_audio (i : Instr) (hi : i = .mix ∨ i = .widen ∨ ∃ ch, i = .resample ch) : Confined i withAudio := by
  intro s t h ht
  obtain ⟨-, he⟩ := exec_next_of_not_faulted s t i h ht
  cases effect_of_commandEffect s t i he with
  | resample ch vs _ =>
    rw [State.latchTlen_eq]
    cases ch <;> rfl
  | mix | widen => rfl
  | palbuild | blit => simp at hi

theorem independent_video_of_audio (i : Instr) (hi : i = .palbuild ∨ i = .blit) : Independent i withAudio := by
  intro u s
  obtain rfl | rfl := hi
  · exact exec_overlay (withAudio u) .palbuild s rfl (fun _ _ => rfl) rfl fun _ => rfl
  · exact exec_overlay (withAudio u) .blit s rfl (fun _ _ => rfl) rfl fun _ =>
      blitEffect_overlay s (withAudio u) rfl fun _ => rfl

theorem independent_audio_of_video (i : Instr) (hi : i = .mix ∨ i = .widen ∨ ∃ ch, i = .resample ch) :
    Independent i withVideo := by
  intro u s
  obtain rfl | rfl | ⟨ch, rfl⟩ := hi
  · exact exec_overlay (withVideo u) .mix s rfl (fun _ _ => rfl) rfl fun _ =>
      mixEffect_overlay s (withVideo u) rfl fun _ => rfl
  · exact exec_overlay (withVideo u) .widen s rfl (fun _ _ => rfl) rfl fun _ =>
      widenEffect_overlay s (withVideo u) rfl fun _ => rfl
  · cases ch <;> exact exec_overlay (withVideo u) (.resample _) s rfl (fun _ _ => rfl) rfl fun _ =>
      resampleEffect_overlay s (withVideo u) _ rfl fun _ => rfl

/-- Settles O33: each kind is confined to its results, on which the other does not depend. -/
theorem videoAndAudioCommandsCommute : Obligations.VideoAndAudioCommandsCommute := by
  intro v a hv ha s s1 s2
  have hvideo := confined_video v hv
  have haudio := confined_audio a ha
  have hv' := independent_video_of_audio v hv
  have ha' := independent_audio_of_video a ha
  exact ⟨exec_commute v a _ _ hvideo haudio hv' ha' (fun _ _ => rfl) (fun _ _ _ => rfl) s s1 s2,
    exec_commute a v _ _ haudio hvideo ha' hv' (fun _ _ => rfl) (fun _ _ _ => rfl) s s1 s2⟩

end Sys2Proof.Machine
end

section
/-! PROOFS, 42_resampler.md, the iterations of the loop (R140, R141) and the command (R135, R138, R144): what a `RESAMPLE`
leaves when its source is written, that the two channels run the same algorithm, and on what it does not depend. -/

namespace Sys2Proof.Machine

/-! ## The iterations of the loop -/

/-- Settles O19: the closed form is that of `emittedIndex`; its bound is `T * F ≤ O`. -/
theorem sourceIndicesAreTheClosedForm : Obligations.SourceIndicesAreTheClosedForm := by
  refine ⟨fun T O max hO => ⟨sourceIndices_eq T O max hO, fun k l hkl => emittedIndex_mono O max hO hkl, fun hT => ?last⟩,
    fun O F S hF hFO hS => ?bound⟩
  case last => rw [emittedIndex_eq_lastIndex, Nat.sub_add_cancel hT]
  case bound =>
    obtain ⟨n, hn⟩ := Nat.exists_eq_add_one_of_ne_zero (Nat.div_pos hFO hF).ne'
    rw [hn, ← emittedIndex_eq_lastIndex, emittedIndex_le_iff O _ n _ (hF.trans_le hFO), Nat.sub_add_cancel hS, ← hn]
    calc O / F * (F * S)
      _ = O / F * F * S := (Nat.mul_assoc _ F S).symm
      _ ≤ O * S := Nat.mul_le_mul_right S (Nat.div_mul_le_self O F)
      _ = S * O := Nat.mul_comm O S

/-- A loop that has emitted all its samples has had the iterations for each of them: one a sample, and one a step of the
source index (R141). -/
theorem le_fuel_of_length_decimate (O max fuel remaining measurement sourceIndex k : Nat) (hO : 0 < O)
    (hstate : measurement + k * max = (sourceIndex + 1) * O) (hnext : sourceIndex ≤ emittedIndex O max k)
    (hlen : (decimate O max fuel remaining measurement sourceIndex).length = remaining) (i : Nat) (hi : i < remaining) :
    i + 1 + emittedIndex O max (k + i) ≤ fuel + sourceIndex := by
  have hemit (m j k : Nat) (h : m + k * max = (j + 1) * O) : max ≤ m ↔ emittedIndex O max k ≤ j := by
    rw [emittedIndex_le_iff O max k j hO, ← h, Nat.add_mul]; omega
  fun_induction decimate O max fuel remaining measurement sourceIndex generalizing k i with
  | case1 => contradiction
  | case2 m j r => contradiction
  | case3 fuel r m j hmax ih =>
    have hj : j = emittedIndex O max k := le_antisymm hnext ((hemit m j k hstate).1 hmax)
    have hmono : emittedIndex O max k ≤ emittedIndex O max (k + 1) := emittedIndex_mono O max hO (Nat.le_succ k)
    cases i with
    | zero =>
      simp only [Nat.add_zero, ← hj]
      omega
    | succ i =>
      have hrest := ih (k + 1) (by rw [Nat.add_mul]; omega) (hj.trans_le hmono) (by simpa using hlen) i (by omega)
      rw [show k + 1 + i = k + (i + 1) by omega] at hrest
      omega
  | case4 fuel r m j hmax ih =>
    rw [hemit m j k hstate] at hmax
    have hrest := ih k (by rw [Nat.add_mul (j + 1)]; omega) (by omega) hlen i hi
    omega

/-- Settles O20: with that many iterations the loop emits its closed form, and it needs them all. -/
theorem decimationTakesExactlyItsIterations : Obligations.DecimationTakesExactlyItsIterations := by
  refine ⟨fun T O max fuel hO hT => ?_, fun O max fuel => by rw [decimate]⟩
  obtain ⟨n, rfl⟩ := Nat.exists_eq_add_one_of_ne_zero hT.ne'
  rw [← emittedIndex_eq_lastIndex]
  constructor
  · intro hlen
    have hfuel := le_fuel_of_length_decimate O max fuel (n + 1) O 0 0 hO (by omega) (Nat.zero_le _) hlen n (by omega)
    rwa [Nat.zero_add] at hfuel
  · intro hfuel
    rw [decimate_eq O max fuel (n + 1) O 0 0 hO (by omega) (Nat.zero_le _) (by simpa using hfuel)]
    simp

/-! ## What a `RESAMPLE` leaves -/

section

variable (s t : State) (ch : Channel)

/-- When the checks pass; `checkResample_none` is the converse. -/
theorem checkResample_eq_none (hF : s.chipFreq.toNat ≠ 0) (hlatched : s.tlenValid = true → targetLength s = s.tlen.toNat)
    (hfits : s.tlenValid = false → targetLength s ≤ s.cfg.tlenMax) (hlen : (srcLen ch s).toNat ≤ s.cfg.maxSrc)
    (hlast : 0 < targetLength s →
      lastIndex (targetLength s) s.outRate.toNat (sourceRate s) < (srcLen ch s).toNat) :
    checkResample ch s = none := by
  have hF' : s.chipFreq ≠ 0 := fun h => hF (congrArg BitVec.toNat h)
  rw [checkResample_of_targetLength_ok s ch hF' hlatched hfits, if_neg hlen.not_gt,
    if_neg fun h => (hlast h.1).not_ge h.2]

/-- The samples are the source elements the loop reads, in order. -/
theorem resampled_eq_ok_iff (vs : List Byte) :
    resampled ch s = .ok vs ↔ List.Forall₂ (fun j v => (srcMem ch s).read j = some v) (resampleIndices s) vs := by
  unfold resampled
  induction resampleIndices s generalizing vs with
  | nil => simp [eq_comm]
  | cons j js ih => simp [collect_cons_ok, element_eq_ok, ih, List.forall₂_cons_left_iff]

/-- A resampling whose elements are written can be computed. -/
theorem resampled_total
    (h : ∀ k < targetLength s, ∃ v, (srcMem ch s).read (emittedIndex s.outRate.toNat (sourceRate s) k) = some v) :
    ∃ vs, resampled ch s = .ok vs := by
  refine collect_total _ _ fun j hj => ?_
  rw [resampleIndices_eq, List.mem_map] at hj
  obtain ⟨k, hk, rfl⟩ := hj
  obtain ⟨v, hv⟩ := h k (List.mem_range.1 hk)
  exact ⟨v, (element_eq_ok _ _ _ v).2 hv⟩

/-- The samples, written, are the source elements at the closed form, and the elements beyond them stay. -/
theorem read_writeRun_resampled (vs : List Byte) (h : resampled ch s = .ok vs) (m : Mem 8) :
    (∀ k < targetLength s,
      (m.writeRun 0 vs).read k = (srcMem ch s).read (emittedIndex s.outRate.toNat (sourceRate s) k)) ∧
      ∀ k, targetLength s ≤ k → (m.writeRun 0 vs).read k = m.read k := by
  obtain ⟨hlen, hget⟩ := resampled_ok s ch vs h
  refine ⟨fun k hk => ?_, fun k hk => Mem.read_writeRun_of_not_mem m 0 vs k (.inr (by omega))⟩
  obtain ⟨v, hsrc, hv⟩ := hget k hk
  have hrun := Mem.read_writeRun_mem m 0 vs k (hlen ▸ hk)
  rw [Nat.zero_add] at hrun
  rw [hrun, hv, hsrc]

/-- The checks make the latched length the target length, whether it was latched before or not (R138). -/
theorem latchTlen_targetLength_eq (hlatched : s.tlenValid = true → targetLength s = s.tlen.toNat) :
    s.latchTlen (BitVec.ofNat 32 (targetLength s)) =
      { s with tlen := BitVec.ofNat 32 (targetLength s), tlenValid := true } := by
  rw [State.latchTlen_eq]
  obtain h | h := Bool.eq_false_or_eq_true s.tlenValid
  · rw [if_pos h, hlatched h, BitVec.ofNat_toNat, BitVec.setWidth_eq]
  · rw [h]
    rfl

theorem exec_resample_of_samples (vs : List Byte) (hf : s.faulted = false) (hc : checkResample ch s = none)
    (hvs : resampled ch s = .ok vs) : exec (.resample ch) s =
      .next ((s.latchTlen (BitVec.ofNat 32 (targetLength s))).commitRs ch ((rsMem ch s).writeRun 0 vs)) := by
  have heffect : resampleEffect ch s =
      .ok ((s.latchTlen (BitVec.ofNat 32 (targetLength s))).commitRs ch ((rsMem ch s).writeRun 0 vs)) := by
    rw [resampleEffect, hvs]
  exact exec_of_effect s _ (.resample ch) hf hc heffect

end

/-- Settles O21: the premises are the checks and that the samples can be read. -/
theorem resampleEmitsTheTargetLength : Obligations.ResampleEmitsTheTargetLength := by
  rintro s ch _ hf hF rfl hlatched hfits hlen hlast hsrc
  have hF' : s.chipFreq.toNat ≠ 0 := fun h => hF (BitVec.eq_of_toNat_eq h)
  have hc : checkResample ch s = none := checkResample_eq_none s ch hF' hlatched hfits hlen hlast
  obtain ⟨vs, hvs⟩ := resampled_total s ch hsrc
  obtain ⟨hin, hout⟩ := read_writeRun_resampled s ch vs hvs (rsMem ch s)
  refine ⟨_, exec_resample_of_samples s ch vs hf hc hvs, ?primary, ?auxiliary, ?samples, ?beyond⟩
  case primary | auxiliary =>
    rintro rfl
    rw [latchTlen_targetLength_eq s hlatched]
    rfl
  case samples =>
    rw [rsMem_commitRs]
    exact hin
  case beyond =>
    rw [rsMem_commitRs]
    exact hout

/-! ## The two channels -/

/-- The auxiliary stream in the place of the primary one. -/
def auxiliaryAsPrimary (s : State) : State :=
  { s with src0 := s.src1, src0Len := s.src1Len, rs0 := s.rs1, rs0Valid := s.rs1Valid }

/-- The two channels read the same samples from the same source. -/
theorem resampled_auxiliary (s : State) (vs : List Byte) (h : resampled .primary (auxiliaryAsPrimary s) = .ok vs) :
    resampled .auxiliary s = .ok vs :=
  (resampled_eq_ok_iff s .auxiliary vs).2 ((resampled_eq_ok_iff (auxiliaryAsPrimary s) .primary vs).1 h)

def withAuxPresent (b : Bool) (s : State) : State := { s with auxPresent := b }

theorem exec_resample_withAuxPresent (s : State) (ch : Channel) (b : Bool) :
    exec (.resample ch) (withAuxPresent b s) = mapNext (withAuxPresent b) (exec (.resample ch) s) := by
  cases ch <;> exact exec_overlay (withAuxPresent b) (.resample _) s rfl (fun _ _ => rfl) rfl fun _ =>
    resampleEffect_overlay s (withAuxPresent b) _ rfl fun _ => rfl

/-- Settles O23: the checks and the samples of the two commands are the same, and so are the writes; `AUX_PRESENT` is not
looked at. -/
theorem auxiliaryResampleIsThePrimaryOne : Obligations.AuxiliaryResampleIsThePrimaryOne := by
  refine ⟨fun s t h ht => ?_, fun s t ch b h => ?_⟩
  · obtain ⟨hc, vs, hvs, rfl⟩ := exec_resample_next (auxiliaryAsPrimary s) t .primary h ht
    have hf : s.faulted = false := not_faulted_of_exec (auxiliaryAsPrimary s) _ _ h ht
    rw [exec_resample_of_samples s .auxiliary vs hf hc (resampled_auxiliary s vs hvs), State.latchTlen_eq,
      State.latchTlen_eq]
    rfl
  · exact (exec_resample_withAuxPresent s ch b).trans (congrArg (mapNext (withAuxPresent b)) h)

/-! ## Elements beyond the length -/

def withSrc0 (m : Mem 8) (s : State) : State := { s with src0 := m }

def withSrc1 (m : Mem 8) (s : State) : State := { s with src1 := m }

section

variable (s : State) (m : Mem 8)

/-- When the checks pass, elements at or beyond the length are not among those read (R244). -/
theorem collect_element_congr (ch : Channel) (space : Space) (hc : checkResample ch s = none)
    (h : ∀ j < (srcLen ch s).toNat, m.read j = (srcMem ch s).read j) :
    collect (element space m) (resampleIndices s) = collect (element space (srcMem ch s)) (resampleIndices s) := by
  refine collect_congr _ _ _ fun j hj => ?_
  rw [element, element, h j (lt_srcLen_of_mem_resampleIndices s ch hc j hj)]

theorem exec_resample_withSrc0 (h : ∀ j < s.src0Len.toNat, m.read j = s.src0.read j) :
    exec (.resample .primary) (withSrc0 m s) = mapNext (withSrc0 m) (exec (.resample .primary) s) :=
  exec_overlay (withSrc0 m) (.resample .primary) s rfl (fun _ _ => rfl) rfl fun hc =>
    resampleEffect_overlay s (withSrc0 m) .primary (collect_element_congr s m .primary .src0 hc h) fun _ => rfl

theorem exec_resample_withSrc1 (h : ∀ j < s.src1Len.toNat, m.read j = s.src1.read j) :
    exec (.resample .auxiliary) (withSrc1 m s) = mapNext (withSrc1 m) (exec (.resample .auxiliary) s) :=
  exec_overlay (withSrc1 m) (.resample .auxiliary) s rfl (fun _ _ => rfl) rfl fun hc =>
    resampleEffect_overlay s (withSrc1 m) .auxiliary (collect_element_congr s m .auxiliary .src1 hc h) fun _ => rfl

end

/-- Settles O25. -/
theorem resampleIgnoresElementsBeyondTheLength : Obligations.ResampleIgnoresElementsBeyondTheLength := fun s m =>
  ⟨fun h _ ht => (exec_resample_withSrc0 s m h).trans (congrArg (mapNext (withSrc0 m)) ht),
    fun h _ ht => (exec_resample_withSrc1 s m h).trans (congrArg (mapNext (withSrc1 m)) ht)⟩

end Sys2Proof.Machine
end

section
/-! PROOFS, 20_memory.md section 6, a command issued again (R71, R113, R168). No command reads what it writes, so the second
run reads the same and writes the same values, which in canonical form changes nothing. -/

namespace Sys2Proof.Machine

/-! ## Writing rows again -/

/-- What rows leave at an element is fixed by the rows, or the element is as before. -/
theorem read_writeRows_cases (P : Params) (rows : List (List Color)) (r a : Nat) :
    (∃ v, ∀ m, (writeRows P m r rows).read a = v) ∨ ∀ m, (writeRows P m r rows).read a = Mem.read m a := by
  induction rows generalizing r with
  | nil => exact .inr fun _ => rfl
  | cons row rows ih =>
    simp only [writeRows]
    by_cases ha : fbIndex P r 0 ≤ a ∧ a < fbIndex P r 0 + row.length
    · exact .inl ⟨_, fun m => by rw [Mem.read_writeRun, if_pos ha]⟩
    · simp only [Mem.read_writeRun, if_neg ha]
      exact ih (r + 1)

/-- Writing rows twice is writing them once. -/
theorem writeRows_twice (P : Params) (m : Mem 16) (r : Nat) (rows : List (List Color)) (h : m.wf) :
    writeRows P (writeRows P m r rows) r rows = writeRows P m r rows := by
  have hwf := writeRows_wf P m r rows h
  refine Mem.ext_of_wf _ _ (writeRows_wf P _ r rows hwf) hwf fun a => ?_
  obtain ⟨v, hfixed⟩ | hkept := read_writeRows_cases P rows r a
  · rw [hfixed, hfixed]
  · exact hkept _

/-! ## Commands -/

section

variable (s t : State)

/-- The checks that a `RESAMPLE` has passed pass again: the length it latches is the target length (R138). -/
theorem checkResample_again (ch : Channel) (m : Mem 8) (hc : checkResample ch s = none) :
    checkResample ch ((s.latchTlen (BitVec.ofNat 32 (targetLength s))).commitRs ch m) = none := by
  obtain ⟨hF, hlatched, -, hlen, hlast⟩ := checkResample_none s ch hc
  have hT : (BitVec.ofNat 32 (targetLength s)).toNat = targetLength s := by
    rw [BitVec.toNat_ofNat, Nat.mod_eq_of_lt (targetLength_lt s)]
  rw [latchTlen_targetLength_eq s hlatched]
  cases ch <;> exact checkResample_eq_none _ _ hF (fun _ => hT.symm) nofun hlen hlast

theorem resampled_latched (ch : Channel) (m : Mem 8) :
    resampled ch ((s.latchTlen (BitVec.ofNat 32 (targetLength s))).commitRs ch m) = resampled ch s := by
  rw [State.latchTlen_eq]
  cases ch <;> rfl

theorem State.commitRs_commitRs (ch : Channel) (m m' : Mem 8) :
    (s.commitRs ch m).commitRs ch m' = s.commitRs ch m' := by
  cases ch <;> rfl

/-- What a command did without a fault it does again to no effect. -/
theorem exec_again (i : Instr) (hs : s.memoryWf) (hf : s.faulted = false) (hc : commandCheck i s = none)
    (he : commandEffect i s = .ok t) : exec i t = .next t := by
  have hft : t.faulted = false := (commandEffect_faulted s t i he).trans hf
  obtain ⟨lut, surf, fb, src0, src1, rs0, rs1, mixb, out⟩ := id hs
  cases effect_of_commandEffect s t i he with
  | palbuild =>
    have hagain := exec_palbuild_of_not_faulted (buildLut s) hft
    rwa [buildLut_eq, buildLut_eq, State.commitLut_lut, State.commitLut_cfg, Mem.writeRun_twice s.lut 0 _ lut] at hagain
  | blit rows hrows =>
    have hagain := exec_blit_of_rows (s.commitBlit (writeRows s.cfg s.fb 0 rows) s.visW s.visH) rows hft hc hrows
    rwa [State.commitBlit_cfg, State.commitBlit_fb, writeRows_twice s.cfg s.fb 0 rows fb] at hagain
  | resample ch vs hvs =>
    have hvalid := (State.commitRs_tlenValid (s.latchTlen (BitVec.ofNat 32 (targetLength s))) ch
      ((rsMem ch s).writeRun 0 vs)).trans (State.latchTlen_tlenValid s _)
    have hagain := exec_resample_of_samples _ ch vs hft (checkResample_again s ch _ hc)
      ((resampled_latched s ch _).trans hvs)
    rwa [State.latchTlen_of_valid _ _ hvalid, rsMem_commitRs, State.commitRs_commitRs,
      Mem.writeRun_twice _ 0 vs (rsMem_wf s ch hs)] at hagain
  | mix vs hvs =>
    have hagain := exec_of_effect _ _ .mix hft hc (mixEffect_of_samples (s.commitMix (s.mixb.writeRun 0 vs)) vs hvs)
    rwa [State.commitMix_mixb, Mem.writeRun_twice s.mixb 0 vs mixb] at hagain
  | widen vs hvs =>
    have hagain := exec_of_effect _ _ .widen hft hc (widenEffect_of_samples (s.commitOut (s.out.writeRun 0 vs)) vs hvs)
    rwa [State.commitOut_out, Mem.writeRun_twice s.out 0 vs out] at hagain

end

/-- Settles O31: a command that was ignored or has faulted is ignored again; one that had its effect has it again. -/
theorem repeatedCommandChangesNothing : Obligations.RepeatedCommandChangesNothing := by
  intro i s t hs h
  obtain ⟨hf, rfl⟩ | ⟨-, c, -, rfl⟩ | ⟨hf, hc, he⟩ := exec_next s t i h
  · exact h
  · exact exec_of_faulted _ i rfl
  · exact exec_again s t i hs hf hc he

end Sys2Proof.Machine
end

section
/-! PROOFS, 45_host_access.md and 30_encoding.md section 6, transactions one after another: a write to an RO register (R178),
a read after a write (R68), a read repeated (R65), and the runs of `SETRECT` and `LOADAT` (R100). -/

namespace Sys2Proof.Machine

variable (s t : State) (rest : List Transaction)

/-! ## A write to an RO register -/

/-- An RO register stores nothing and records its number (R178). -/
theorem step_wr_of_ro (r : Reg) (v : Word) (hp : s.pending = .wr r.number v :: rest) (hf : s.faulted = false)
    (hr : regAccess r = .ro) : step s = .next ((s.dequeue rest).withFaultRecord ErrCode.access.code r.number) := by
  have hcmd : r.number ≠ Reg.cmd.number := fun h => by
    rw [Reg.number_injective r .cmd h] at hr
    contradiction
  have hrw : ¬ regAccess r = .rw := by simp [hr]
  rw [step_wr_of_not_faulted s rest _ v hp hf, writeRegister, if_neg hcmd, hostWriteReg, Reg.ofNumber_number]
  exact congrArg _ ((if_neg hrw).trans (State.takeFault_of_not_faulted (s.dequeue rest) _ _ hf))

/-- Settles O37. -/
theorem readOnlyRegisterWriteFaults : Obligations.ReadOnlyRegisterWriteFaults := by
  intro s rest r v hf hp hr
  exact step_wr_of_ro s rest r v hp hf (by fin_cases hr <;> rfl)

/-! ## A read after a write -/

/-- The stored bits of a value, read, are the value with the other bits cleared (R182, R183). -/
theorem zeroExtend_truncate (n : Nat) (hn : n ≤ 32) (v : Word) :
    (v.truncate n).zeroExtend 32 = v &&& BitVec.ofNat 32 (2 ^ n - 1) := by
  have hpow : 2 ^ n ≤ 2 ^ 32 := Nat.pow_le_pow_right (by decide) hn
  have hpos : 0 < 2 ^ n := Nat.two_pow_pos n
  have hmask : (2 ^ n - 1) % 2 ^ 32 = 2 ^ n - 1 := Nat.mod_eq_of_lt (by omega)
  have hfit : v.toNat % 2 ^ n < 2 ^ 32 := (Nat.mod_lt _ hpos).trans_le hpow
  refine BitVec.eq_of_toNat_eq ?_
  rw [BitVec.toNat_setWidth, BitVec.toNat_setWidth, BitVec.toNat_and, BitVec.toNat_ofNat, hmask,
    Nat.and_two_pow_sub_one_eq_mod, Nat.mod_eq_of_lt hfit]

/-- A written element reads the stored bits: 16 for `FB`, 8 for the other writable spaces. -/
theorem spaceRead_spaceWrite_self (space : Space) (i : Nat) (v : Word) (hw : hostWritable space = true) :
    spaceRead (spaceWrite s space i v) space i = some (if space = .fb then v &&& 0xFFFF else v &&& 0xFF) := by
  cases space with
  | fb =>
    rw [spaceRead, spaceWrite, Mem.read_write_self, Option.map_some, zeroExtend_truncate 16 (by decide)]
    rfl
  | surf | src0 | src1 =>
    rw [spaceRead, spaceWrite, Mem.read_write_self, Option.map_some, zeroExtend_truncate 8 (by decide)]
    rfl
  | palrom | lut | rs0 | rs1 | mixb | out => contradiction

theorem spaceWrite_pending (space : Space) (i : Nat) (v : Word) : (spaceWrite s space i v).pending = s.pending := by
  cases space <;> rfl

/-- Settles O42. -/
theorem readAfterWriteReturnsTheStoredBits : Obligations.ReadAfterWriteReturnsTheStoredBits := by
  intro s rest space i v hf hw hi hp
  have hwrite := step_wm_of_inside s _ space i v hp hf hw hi
  have hread := step_rm_of_written (spaceWrite (s.dequeue (.rm space.id i :: rest)) space i.toNat v) rest space i _
    (spaceWrite_pending _ space _ v) (by rwa [spaceWrite_cfg, State.dequeue_cfg])
    (spaceRead_spaceWrite_self _ space i.toNat v hw)
  exact ⟨_, _, hwrite, hread, rfl, rfl⟩

/-! ## A read repeated -/

/-- To answer again what has been answered changes nothing. -/
theorem withReply_dequeue_of_answered (ts : List Transaction) (v : Word) (hp : t.pending = rest)
    (hr : t.reply = some v) : (({ t with pending := ts } : State).dequeue rest).withReply v = t :=
  calc (({ t with pending := ts } : State).dequeue rest).withReply v
    _ = { t with pending := rest, reply := some v } := rfl
    _ = t := by rw [← hp, ← hr]

/-- A read that faults answers 0, and so it does again; the fault is recorded once (R206). -/
theorem takeFault_again (ts : List Transaction) (c : ErrCode) (info : Word)
    (ht : t = ((s.dequeue rest).withReply 0).takeFault c info) :
    ((({ t with pending := ts } : State).dequeue rest).withReply 0).takeFault c info = t := by
  have hanswer : t.pending = rest ∧ t.reply = some 0 := by
    rw [ht, State.takeFault]
    split <;> exact ⟨rfl, rfl⟩
  have hfaulted : t.faulted = true := ht ▸ State.takeFault_faulted _ c info
  rw [withReply_dequeue_of_answered t rest ts 0 hanswer.1 hanswer.2]
  exact State.takeFault_of_faulted t c info hfaulted

/-- A register read answers the register, which it leaves as it is (R176). -/
theorem hostReadReg_again (ts : List Transaction) (n : Word) (ht : t = hostReadReg (s.dequeue rest) n) :
    hostReadReg (({ t with pending := ts } : State).dequeue rest) n = t := by
  cases hr : Reg.ofNumber n with
  | some r =>
    have hread (u : State) : hostReadReg u n = u.withReply (regRead u r) := by rw [hostReadReg, hr]
    rw [hread] at ht
    subst ht
    exact hread _
  | none =>
    rw [hostReadReg_of_undefined _ n hr] at ht ⊢
    exact takeFault_again s t rest ts .addr n ht

theorem hostReadMem_of_ok (sp : Nat) (i : Word) (space : Space) (h : checkMem s.cfg .read sp i.toNat = .ok space) :
    hostReadMem s sp i = s.withReply (hostElement s space i.toNat) := by
  rw [hostReadMem, h]

theorem hostReadMem_of_error (sp : Nat) (i : Word) (c : ErrCode) (h : checkMem s.cfg .read sp i.toNat = .error c) :
    hostReadMem s sp i = (s.withReply 0).takeFault c i := by
  rw [hostReadMem, h]

theorem State.takeFault_cfg (c : ErrCode) (info : Word) : (s.takeFault c info).cfg = s.cfg := by
  unfold State.takeFault
  split <;> rfl

/-- A memory read answers the element, which it leaves as it is (R182). -/
theorem hostReadMem_again (ts : List Transaction) (sp : Nat) (i : Word)
    (ht : t = hostReadMem (s.dequeue rest) sp i) :
    hostReadMem (({ t with pending := ts } : State).dequeue rest) sp i = t := by
  cases hc : checkMem s.cfg .read sp i.toNat with
  | ok space =>
    rw [hostReadMem_of_ok (s.dequeue rest) sp i space hc] at ht
    subst ht
    exact hostReadMem_of_ok _ sp i space hc
  | error c =>
    rw [hostReadMem_of_error (s.dequeue rest) sp i c hc] at ht
    have hcfg : t.cfg = s.cfg := ht ▸ State.takeFault_cfg _ c i
    rw [hostReadMem_of_error (({ t with pending := ts } : State).dequeue rest) sp i c (hcfg ▸ hc)]
    exact takeFault_again s t rest ts c i ht

/-- Settles O43: the second read is made in the state the first one leaves. -/
theorem readsMayBeRepeated : Obligations.ReadsMayBeRepeated := by
  rintro s t _ rest (⟨n, rfl⟩ | ⟨sp, i, rfl⟩) hp h
  · rw [step_rd s rest n hp, Host.Outcome.next.injEq] at h
    rw [step_rd _ rest n rfl, hostReadReg_again s t rest _ n h.symm]
  · rw [step_rm s rest sp i hp, Host.Outcome.next.injEq] at h
    rw [step_rm _ rest sp i rfl, hostReadMem_again s t rest _ sp i h.symm]

/-! ## Runs -/

theorem coreRun_of_next (M : Host.Core) (n : Nat) (u v : M.State) (h : M.step u = .next v) :
    M.run (n + 1) u = M.run n v := by
  rw [Host.Core.run, h]

theorem run_of_step (n : Nat) (h : step s = .next t) :
    Host.Core.run Sys2Proof.core (n + 1) s = Host.Core.run Sys2Proof.core n t :=
  coreRun_of_next Sys2Proof.core n s t h

/-- A run whose next transaction writes an RW register goes on from the register stored. -/
theorem run_wr_of_rw (n : Nat) (r : Reg) (v : Word) (hr : regAccess r = .rw) (hf : s.faulted = false)
    (hp : s.pending = .wr r.number v :: rest) :
    Host.Core.run Sys2Proof.core (n + 1) s = Host.Core.run Sys2Proof.core n (regWrite (s.dequeue rest) r v) :=
  run_of_step s _ n (step_wr_of_rw s rest r v hp hf hr)

/-- Settles O44: five register writes; the state is written out after each, so that the updates do not nest. -/
theorem setRectWritesTheRectangle : Obligations.SetRectWritesTheRectangle := by
  intro s rest dtop top left w h hf hp
  refine Eq.trans (run_wr_of_rw s _ 4 .dispTop dtop rfl hf hp) ?_
  simp only [regWrite, State.dequeue]
  refine Eq.trans (run_wr_of_rw _ _ 3 .visTop top rfl hf rfl) ?_
  simp only [regWrite, State.dequeue]
  refine Eq.trans (run_wr_of_rw _ _ 2 .visLeft left rfl hf rfl) ?_
  simp only [regWrite, State.dequeue]
  refine Eq.trans (run_wr_of_rw _ _ 1 .visW w rfl hf rfl) ?_
  exact run_wr_of_rw _ rest 0 .visH h rfl hf rfl

/-- Settles O45, by induction on the values: the first is stored at `k`, the others from `k + 1` on, which stays below
2^32 because it is inside the surface. -/
theorem loadAtFillsTheSurface : Obligations.LoadAtFillsTheSurface := by
  intro vs
  induction vs with
  | nil =>
    intro s rest k _ _ hp
    obtain rfl : s.pending = rest := hp
    exact ⟨s, rfl, rfl, nofun, fun _ _ => rfl⟩
  | cons v vs ih =>
    intro s rest k hf hsize hp
    have hfits : k.toNat + 1 + vs.length ≤ s.cfg.surfSize := by
      rw [List.length_cons] at hsize
      omega
    have hk : (k + 1).toNat = k.toNat + 1 := by
      have hlt := s.cfg.surfSize_lt
      have hadd : (k + 1).toNat = (k.toNat + 1) % 2 ^ 32 := BitVec.toNat_add k 1
      rw [hadd, Nat.mod_eq_of_lt (by omega)]
    have hstep := step_wm_of_inside s _ .surf k v hp hf rfl (lt_of_lt_of_le (by omega) hfits)
    obtain ⟨hself, hother⟩ := Mem.read_write_truncate 7 (by decide) s.surf k.toNat v
    obtain ⟨t, hrun, ht, hin, hout⟩ := ih
      (spaceWrite (s.dequeue (loadAt .surf (k + 1) vs ++ rest)) .surf k.toNat v) rest (k + 1) hf (hk.symm ▸ hfits) rfl
    rw [hk] at hin hout
    refine ⟨t, (run_of_step s _ vs.length hstep).trans hrun, ht, fun j hj => ?loaded, fun a ha => ?outside⟩
    case loaded =>
      cases j with
      | zero => exact (hout _ (.inl (Nat.lt_succ_self _))).trans hself
      | succ j =>
        have hloaded := hin j (Nat.lt_of_succ_lt_succ hj)
        rw [Nat.add_assoc, Nat.add_comm 1 j] at hloaded
        exact hloaded
    case outside =>
      rw [List.length_cons] at ha
      exact (hout a (by omega)).trans (hother a (by omega))

end Sys2Proof.Machine
end
